-- ==== Sys2Proof/Word.lean ====
section
/-! DEFINITION. The word types of the block's four formats (30_encoding.md rule R70). -/

namespace Sys2Proof

/-- A 16-bit word: CMD16, RSP16 or RES16 (rule R70), and the registers ARG, RXDATA, TXSR, RXSR. -/
abbrev Word16 := BitVec 16

/-- An operation word OPW: `op_code` in bits 18:16, `op_arg` in bits 15:0 (rules R70, R71). -/
abbrev OpWord := BitVec 19

end Sys2Proof
end

