-- ==== Sys2Proof/Config.lean ====
section
/-! DEFINITION. The configuration of one instance of the block (00_scope.md rules R5 to R8), the default
configuration, and the free value of the device. -/

namespace Sys2Proof

/-- The parameters a model takes as arguments (92_eei_decisions.md D33). `K`, `RES`, `CYCLE` and the cycle counts
follow from them (Machine/Params.lean). Times are whole nanoseconds and the clock frequency is whole hertz
(DESIGN CHOICE, log entry 3). -/
structure Config where
  /-- `SHIFT`: low-order status and parity bits of a response word (rule R5). -/
  shift : Nat
  /-- `W`: width of `ACC` in bits (rule R5). -/
  w : Nat
  /-- `PP`: pole pairs (rule R5). -/
  pp : Nat
  /-- `CPOL`: idle level of `sck` (rule R7). -/
  cpol : Bool
  /-- `CPHA`: false samples `sdi` on the first edge of each period, true on the second (rule R7). -/
  cpha : Bool
  /-- `F_CLK` in hertz (rule R6). -/
  fClk : Nat
  /-- `N_HALF`: half-period of `sck` in cycles of `clk` (rule R6). -/
  nHalf : Nat
  /-- `N_IDLE`: minimum chip-select-high time between frames in cycles of `clk` (rule R6). -/
  nIdle : Nat
  /-- `T_CS` in nanoseconds (rule R6). -/
  tCs : Nat
  /-- `T_PWRON` in nanoseconds (rule R6). -/
  tPwron : Nat
  /-- `T_CFG` in nanoseconds (rule R6). -/
  tCfg : Nat
  /-- `T_SETTLE` in nanoseconds: waited by the host, not by the block (rules R6, R142). -/
  tSettle : Nat
  deriving DecidableEq, Repr

/-- The defaults of rules R5 and R6. The OPEN parameters `CPOL`, `CPHA`, `N_HALF`, `N_IDLE` have the values of
95_test_vectors.md vector F4, and `F_CLK` the value that makes `N_CS` the 2 of that vector with the default `T_CS`
(DESIGN CHOICE, log entry 2). -/
def Config.standard : Config :=
  { shift := 4, w := 32, pp := 7, cpol := false, cpha := false, fClk := 2000000, nHalf := 1, nIdle := 1,
    tCs := 1000, tPwron := 100000000, tCfg := 1000000, tSettle := 250000000 }

/-- FREE VALUE (log entry 8): the response word the device gives to the frame with this number, where no script
fixes it. 20_memory.md rule R58: "any of the 65536 values may come back for any command word, in any frame". -/
opaque Config.deviceWord : Nat → Word16

end Sys2Proof
end

