-- ==== Sys2Proof/Machine/Params.lean ====
section
/-! DEFINITION. The parameters that follow from the configuration: `K`, `RES`, `CYCLE` (00_scope.md rules R5, R8)
and the cycle counts `N_CS`, `N_PWRON`, `N_CFG` (rule R6). -/

namespace Sys2Proof

/-- `K = 16 − SHIFT`: width of a raw angle sample (rule R5). -/
def Config.k (c : Config) : Nat := 16 - c.shift

/-- `RES = 2^K`: raw codes per mechanical revolution (rule R5). -/
def Config.res (c : Config) : Nat := 2 ^ c.k

/-- `CYCLE = floor(RES / PP)`: raw units in one electrical cycle (rules R5, R132). -/
def Config.cycle (c : Config) : Nat := c.res / c.pp

/-- `ceil(T × F_CLK)` for a time in nanoseconds (rules R6, R97). -/
def Config.cycles (c : Config) (t : Nat) : Nat := (t * c.fClk + 999999999) / 1000000000

/-- `N_CS` (rule R6). -/
def Config.nCs (c : Config) : Nat := c.cycles c.tCs

/-- `N_PWRON` (rule R6). -/
def Config.nPwron (c : Config) : Nat := c.cycles c.tPwron

/-- `N_CFG` (rule R6). -/
def Config.nCfg (c : Config) : Nat := c.cycles c.tCfg

end Sys2Proof
end

