-- ==== Sys2Proof/Machine/Arith.lean ====
section
/-! DEFINITION. The arithmetic of 00_scope.md rule R11: the non-negative remainder, wrapping to a width, the
two's-complement reading, zero extension to the result word; and the shortest signed difference of 41_unwrap_tracker.md
rule R111. Operands are integers, computed exactly and narrowed at the end. -/

namespace Sys2Proof.Machine

/-- `a mod m`: the unique `r` with `0 ≤ r < m` and `a − r` a multiple of `m`, for `m ≥ 1` (rule R11). -/
def modulo (a : Int) (m : Nat) : Nat := (a % (m : Int)).toNat

/-- The `n`-bit pattern of an integer: `a` modulo `2^n` (rule R11). -/
def wrapTo (n : Nat) (a : Int) : Nat := modulo a (2 ^ n)

/-- `signed(v)` of an `n`-bit pattern, two's complement (rule R11). -/
def signedOf (n : Nat) (v : Nat) : Int := if 2 * v < 2 ^ n then (v : Int) else (v : Int) - (2 ^ n : Nat)

/-- `zext_16(v)` (rules R11, R79). -/
def zext16 (v : Nat) : Word16 := BitVec.ofNat 16 v

/-- `d = (raw − LAST_RAW) mod RES` (rule R111). -/
def rawDifference (c : Config) (raw last : Nat) : Nat := modulo ((raw : Int) - (last : Int)) c.res

/-- `delta`: `d` if `d < RES/2`, else `d − RES` (rule R111). Exactly half a revolution gives `−RES/2`
(92_eei_decisions.md D14). -/
def shortestDelta (c : Config) (raw last : Nat) : Int :=
  if rawDifference c raw last < c.res / 2 then (rawDifference c raw last : Int)
  else (rawDifference c raw last : Int) - (c.res : Int)

end Sys2Proof.Machine
end

