-- ==== Sys2Proof/Syntax.lean ====
section
/-! DEFINITION. The instructions of the block: one constructor per row of spec/opcode_table.json, and the two
kinds of encoded word they are read from. -/

namespace Sys2Proof

/-- One constructor per row of the opcode table. The eight operation words carry their whole `op_arg`: every
operation latches it in ARG when it is accepted (10_state.md rule R26), although only RDREG uses it (30_encoding.md
rule R73). The five command words are constants without fields (rule R74). -/
inductive Instr where
  /-- RDREG: one frame whose command word is `arg` (rule R93). -/
  | rdreg (arg : Word16)
  /-- CONFIG: the device bring-up (rule R95). -/
  | config (arg : Word16)
  /-- SAMPLE: one frame, the unwrap update, the reduced sample (rule R113). -/
  | sample (arg : Word16)
  /-- MECH: one frame, the unwrap update, the mechanical angle code (rule R135). -/
  | mech (arg : Word16)
  /-- ELEC: one frame, the unwrap update, the electrical angle code (rule R136). -/
  | elec (arg : Word16)
  /-- ZERO: the Reset-And-Sample step of zero calibration (rule R140). -/
  | zero (arg : Word16)
  /-- Reserved operation code 6 (rule R76). -/
  | reserved6 (arg : Word16)
  /-- Reserved operation code 7 (rule R76). -/
  | reserved7 (arg : Word16)
  /-- The command word `0x47CE`, "I/O/current config" (rule R74). -/
  | cmdIoCurrentConfig
  /-- The command word `0x452F`, "polarity + zero-angle low bits" (rule R74). -/
  | cmdPolarityZeroLow
  /-- The command word `0x44FF`, "zero-angle high bits" (rule R74). -/
  | cmdZeroHigh
  /-- The command word `0x4840`, "zero-pulse width" (rule R74). -/
  | cmdZeroPulseWidth
  /-- The command word `0x0000`, "angle read, no-op command" (rule R74). -/
  | cmdAngleRead
  deriving DecidableEq, Repr

/-- An encoded word in one of the two formats an instruction can have (30_encoding.md rules R70, R82). -/
inductive InWord where
  /-- A 19-bit operation word of the operation port (rule R71). -/
  | opw (w : OpWord)
  /-- A 16-bit command word of a frame (rule R74). -/
  | cmd16 (w : Word16)
  deriving DecidableEq, Repr

end Sys2Proof
end

