-- ==== Sys2Proof/Machine/State.lean ====
section
/-! DEFINITION. The state of the block: every register of 10_state.md rule R20, the configuration of the instance,
what the host and the device will do next, and the two histories (link trace, delivered results); its reset value; and
the reasons a step can stop. -/

namespace Sys2Proof.Machine

/-- `SEQ.OP` (10_state.md rule R26). -/
inductive OpName where
  | idle | rdreg | config | sample | mech | elec | zero | ill
  deriving DecidableEq, Repr

/-- `SEQ = (OP, STEP)` (rule R26). -/
structure Seq where
  op : OpName
  step : Nat
  deriving DecidableEq, Repr

/-- `PH`, the frame phase (rules R20, R91). -/
inductive Phase where
  | idle | setup | shift | hold | gap
  deriving DecidableEq, Repr

/-- An event of the link trace (00_scope.md rule R13). -/
inductive LinkEvent where
  /-- `Frm(cmd, resp)`: one frame. -/
  | frm (cmd resp : Word16)
  /-- `Dly(T)`: a delay of at least `T` nanoseconds between frames. -/
  | dly (t : Nat)
  deriving DecidableEq, Repr

/-- One thing the host does at the block's boundary (10_state.md rules R30, R33; log entries 5, 6, 7, 18). -/
inductive Input where
  /-- A word is presented: an operation word at the operation port, or a bare command word. -/
  | word (w : InWord)
  /-- An operation word is presented to the clock-level model: the next step is the one rising edge of `clk` that accepts
  it, and the steps after that are the cycles of its operation. -/
  | edge (w : OpWord)
  /-- One cycle of `clk` passes in which the host presents nothing: a running operation moves on by one edge, and an idle
  block waits. -/
  | pass
  /-- `rst = 1` at one rising edge of `clk`. -/
  | rst
  deriving DecidableEq, Repr

/-- The state. The first group is the configuration, the second the registers of rule R20 in its order, the third the
environment and the histories. `LAST_RAW`, `ACC` and `ZERO_OFFSET` have widths the configuration sets, so they are
numbers kept below `2^K`, `2^W`, `2^K` by the invariant `State.Inv` of Safety.lean (log entry 4). -/
structure State where
  /-- The parameters of this instance (rule R34); no step changes them (log entry 1). -/
  cfg : Config
  /-- `LAST_RAW` (rule R21). -/
  lastRaw : Nat
  /-- `ACC`, the bit pattern (rule R22). -/
  acc : Nat
  /-- `ZERO_OFFSET` (rule R23). -/
  zeroOffset : Nat
  /-- `STATUS.CONFIGURED` (rule R24). -/
  configured : Bool
  /-- `STATUS.ZEROED` (rule R24). -/
  zeroed : Bool
  /-- `STATUS.ILLOP` (rule R24). -/
  illop : Bool
  /-- `RXDATA` (rule R25). -/
  rxdata : Word16
  /-- `SEQ` (rule R26). -/
  seq : Seq
  /-- `ARG` (rule R26). -/
  arg : Word16
  /-- `CS_N` (rule R27). -/
  csN : Bool
  /-- `SCK` (rule R27). -/
  sck : Bool
  /-- `TXSR` (rule R27). -/
  txsr : Word16
  /-- `RXSR` (rule R27). -/
  rxsr : Word16
  /-- `BITCNT` (rule R27). -/
  bitcnt : BitVec 5
  /-- `PH` (rule R27). -/
  ph : Phase
  /-- `DLY` (rule R28). -/
  dly : BitVec 32
  /-- What the host does next, first entry first (log entry 6). -/
  inputs : List Input
  /-- The device script: the response words of the next frames (30_encoding.md rule R80; log entry 8). -/
  script : List Word16
  /-- Frames completed so far: the argument of the free value `Config.deviceWord` (log entry 8). -/
  frames : Nat
  /-- The link trace, oldest event first (00_scope.md rule R13). -/
  trace : List LinkEvent
  /-- The words delivered on the result port, oldest first (10_state.md rule R31; log entry 17). -/
  results : List Word16
  deriving DecidableEq, Repr

/-- Every register at its reset value (rules R20, R39), for an instance with this configuration; the host presents
nothing, the device has no script and the histories are empty. -/
def State.resetOf (c : Config) : State :=
  { cfg := c, lastRaw := 0, acc := 0, zeroOffset := 0, configured := false, zeroed := false, illop := false,
    rxdata := 0x0000#16, seq := ⟨.idle, 0⟩, arg := 0x0000#16, csN := true, sck := c.cpol, txsr := 0x0000#16,
    rxsr := 0x0000#16, bitcnt := 0#5, ph := .idle, dly := 0#32,
    inputs := [], script := [], frames := 0, trace := [], results := [] }

/-- The machine right after reset (70_reset_and_hazards.md rule R170), with the default configuration. -/
def State.reset : State := State.resetOf Config.standard

/-- Why a step stops with a fault. -/
inductive Fault where
  /-- Raised by `step` in a state whose `SEQ` names no step of any step list. No run from reset reaches one, and the
  spec gives such a state no next state (log entry 19). Safe. -/
  | strayStep
  deriving DecidableEq, Repr

/-- Why a step is refused. -/
inductive Refusal where
  /-- An instruction rejected by name in the dispatcher; no arm uses it. Safe. -/
  | notModelled (mnemonic : String)
  /-- Raised by every meaning and by every `step` when the configuration breaks 00_scope.md rule R8, which says that it "is
  refused by the model, not given a meaning". Safe. -/
  | badConfiguration
  /-- Raised by `step` at clock level (at an accepting edge and in the middle of an operation) when the configuration's
  counts cannot be timed by `DLY` (rules R6, R28; log entry 20). Safe. -/
  | badTiming
  /-- Raised by `step` for a bare command word outside the five of 30_encoding.md rule R74 (rule R77: "The block itself
  sends only those five"). RDREG sends any word. Safe. -/
  | unlistedCommand (w : Word16)
  deriving DecidableEq, Repr

end Sys2Proof.Machine
end

