-- ==== Sys2Proof/Machine/Angle.lean ====
section
/-! DEFINITION. The Angle Converter: two pure functions of the state (10_state.md rule R29). -/

namespace Sys2Proof.Machine

/-- `MECH_CODE = (signed(ACC) − ZERO_OFFSET) mod RES`, the reduced sample `m` (rules R112, R130). -/
def State.mechCode (s : State) : Nat :=
  modulo (signedOf s.cfg.w s.acc - (s.zeroOffset : Int)) s.cfg.res

/-- `ELEC_CODE = (MECH_CODE mod CYCLE) × PP` (rule R133). -/
def State.elecCode (s : State) : Nat := s.mechCode % s.cfg.cycle * s.cfg.pp

end Sys2Proof.Machine
end

