-- ==== Sys2Proof/Machine/Flags.lean ====
section
/-! DEFINITION. The status flags (10_state.md rule R24): the three sticky bits, the derived bit BUSY and the status word.
There are no condition codes. -/

namespace Sys2Proof.Machine

/-- `STATUS.CONFIGURED <- 1` (rule R24). -/
def State.setConfigured (s : State) : State := { s with configured := true }

/-- `STATUS.ZEROED <- 1` (rule R24). -/
def State.setZeroed (s : State) : State := { s with zeroed := true }

/-- `STATUS.ILLOP <- 1` (rules R24, R76, R152). -/
def State.setIllop (s : State) : State := { s with illop := true }

/-- `BUSY`: 1 exactly when `SEQ.OP ≠ IDLE` (rule R24). -/
def State.busy (s : State) : Bool := decide (s.seq.op ≠ .idle)

/-- `status_o = {BUSY, ILLOP, ZEROED, CONFIGURED}` (rule R24). -/
def State.status (s : State) : BitVec 4 :=
  BitVec.ofBool s.busy ++ BitVec.ofBool s.illop ++ BitVec.ofBool s.zeroed ++ BitVec.ofBool s.configured

end Sys2Proof.Machine
end

