-- ==== Sys2Proof/Decode.lean ====
section
/-! DEFINITION. The decoder of operation words and command words (30_encoding.md rules R71 to R74), total and
rejecting by name, and the encoder written from the same tables. -/

namespace Sys2Proof

/-- `op_code = OPW[18:16]` (rule R71). -/
def opCode (w : OpWord) : BitVec 3 := w.extractLsb' 16 3

/-- `op_arg = OPW[15:0]` (rule R71). -/
def opArg (w : OpWord) : Word16 := w.extractLsb' 0 16

/-- `0x47CE`, "I/O/current config" (rule R74). -/
def wordIoCurrentConfig : Word16 := 0x47CE#16

/-- `0x452F`, "polarity + zero-angle low bits" (rule R74). -/
def wordPolarityZeroLow : Word16 := 0x452F#16

/-- `0x44FF`, "zero-angle high bits" (rule R74). -/
def wordZeroHigh : Word16 := 0x44FF#16

/-- `0x4840`, "zero-pulse width" (rule R74). -/
def wordZeroPulseWidth : Word16 := 0x4840#16

/-- `0x0000`, "angle read, no-op command" (rule R74). -/
def wordAngleRead : Word16 := 0x0000#16

/-- Why a word is no instruction. Every operation word is one (rule R72), so only a command word can fail. -/
inductive DecodeError where
  /-- A command word outside the five of rule R74. -/
  | unlistedCommand (w : Word16)
  deriving DecidableEq, Repr

/-- The eight operation codes (rule R72); the last branch is code 7. -/
def decodeOpw (w : OpWord) : Instr :=
  if opCode w = 0#3 then .rdreg (opArg w)
  else if opCode w = 1#3 then .config (opArg w)
  else if opCode w = 2#3 then .sample (opArg w)
  else if opCode w = 3#3 then .mech (opArg w)
  else if opCode w = 4#3 then .elec (opArg w)
  else if opCode w = 5#3 then .zero (opArg w)
  else if opCode w = 6#3 then .reserved6 (opArg w)
  else .reserved7 (opArg w)

/-- The five command words, all 16 bits matched (rule R74). -/
def decodeCmd16 (w : Word16) : Except DecodeError Instr :=
  if w = wordIoCurrentConfig then .ok .cmdIoCurrentConfig
  else if w = wordPolarityZeroLow then .ok .cmdPolarityZeroLow
  else if w = wordZeroHigh then .ok .cmdZeroHigh
  else if w = wordZeroPulseWidth then .ok .cmdZeroPulseWidth
  else if w = wordAngleRead then .ok .cmdAngleRead
  else .error (.unlistedCommand w)

/-- The decoder, by format (rule R70). -/
def decode : InWord → Except DecodeError Instr
  | .opw w => .ok (decodeOpw w)
  | .cmd16 w => decodeCmd16 w

/-- An operation word with this code and operand (rule R71). -/
def opwOf (code : BitVec 3) (arg : Word16) : OpWord := code ++ arg

/-- The encoder (rules R71, R72, R74). -/
def encode : Instr → InWord
  | .rdreg a => .opw (opwOf 0#3 a)
  | .config a => .opw (opwOf 1#3 a)
  | .sample a => .opw (opwOf 2#3 a)
  | .mech a => .opw (opwOf 3#3 a)
  | .elec a => .opw (opwOf 4#3 a)
  | .zero a => .opw (opwOf 5#3 a)
  | .reserved6 a => .opw (opwOf 6#3 a)
  | .reserved7 a => .opw (opwOf 7#3 a)
  | .cmdIoCurrentConfig => .cmd16 wordIoCurrentConfig
  | .cmdPolarityZeroLow => .cmd16 wordPolarityZeroLow
  | .cmdZeroHigh => .cmd16 wordZeroHigh
  | .cmdZeroPulseWidth => .cmd16 wordZeroPulseWidth
  | .cmdAngleRead => .cmd16 wordAngleRead

/-- A row's word as the table numbers it: at most 16 bits is a CMD16, more is an OPW, whose 19 bits the table gives in
three whole bytes; a number with a bit above the format is no word of it. -/
def tableWord (nbits w : Nat) : Option InWord :=
  if nbits ≤ 16 then (if w < 2 ^ 16 then some (.cmd16 (BitVec.ofNat 16 w)) else none)
  else (if w < 2 ^ 19 then some (.opw (BitVec.ofNat 19 w)) else none)

/-- The instruction the decoder reads from a table word. -/
def decodeTableWord (nbits w : Nat) : Option Instr :=
  match tableWord nbits w with
  | none => none
  | some x =>
    match decode x with
    | .ok i => some i
    | .error _ => none

end Sys2Proof
end

