-- ==== Sys2Proof/Machine/Operands.lean ====
section
/-! DEFINITION. Operand forms: the command operand of RDREG (30_encoding.md rule R73), the raw angle sample of a response
word (rule R78, 41_unwrap_tracker.md rule R110), and the shifts of the frame engine (40_serial_register_interface.md rule
R92). -/

namespace Sys2Proof.Machine

/-- The command word RDREG sends: `op_arg` as it stands (rule R73). -/
def commandOperand (arg : Word16) : Word16 := arg

/-- `raw = RXDATA[15:SHIFT]` (rules R78, R110). -/
def rawOf (c : Config) (resp : Word16) : Nat := resp.toNat / 2 ^ c.shift

/-- `{RXSR[14:0], sdi}` (rule R92). -/
def shiftIn (v : Word16) (b : Bool) : Word16 := (v <<< 1) ||| (if b then 1#16 else 0#16)

/-- `{TXSR[14:0], 0}` (rule R92). -/
def shiftOut (v : Word16) : Word16 := v <<< 1

/-- What the transmit register holds once all 16 periods of a frame have passed: 16 shifts with `CPHA = 0`, 15 with
`CPHA = 1`, whose first leading edge does not shift (rule R92; log entry 15). -/
def sentOut (c : Config) (cmd : Word16) : Word16 := if c.cpha then cmd <<< 15 else 0x0000#16

end Sys2Proof.Machine
end

