-- ==== Sys2Proof/WellFormed.lean ====
section
/-! DEFINITION. Which configurations the model gives a meaning to (00_scope.md rule R8), and which of them the
clock-level model can time (rules R6, R28). An instruction needs no check of its own: `op_arg` is exactly 16 bits and
any value of it is accepted (30_encoding.md rule R73), and a command word has no field. -/

namespace Sys2Proof

/-- The constraints of rules R5 and R8 on the parameters that are not derived: `0 ≤ SHIFT ≤ 15`, `W ≥ K`,
`1 ≤ PP ≤ RES`. (`RES` then divides `2^W`, and `1 ≤ CYCLE ≤ RES`.) -/
abbrev Config.Valid (c : Config) : Prop :=
  c.shift ≤ 15 ∧ c.k ≤ c.w ∧ 1 ≤ c.pp ∧ c.pp ≤ c.res

/-- What the clock-level model needs besides: `N_HALF ≥ 1` and `N_IDLE ≥ 1` (rule R6), and every count the 32-bit
counter `DLY` is loaded with fits in it (10_state.md rule R28; log entry 20). -/
abbrev Config.Timed (c : Config) : Prop :=
  1 ≤ c.nHalf ∧ 1 ≤ c.nIdle ∧ c.nHalf ≤ 2 ^ 32 ∧ c.nIdle < 2 ^ 32 ∧ c.nCs < 2 ^ 32 ∧ c.nCfg < 2 ^ 32 ∧
    c.nPwron < 2 ^ 32

end Sys2Proof
end

