-- ==== Sys2Proof/Machine/Ops.lean ====
section
/-! DEFINITION. The named operations the meanings are written from: the device's answer, the frame, the delay, the
tracker's update, the delivery of a result, the reset, and the handshake of the operation port. The block has no memory
(10_state.md rule R36) and takes no exception (60_exceptions.md rule R150): the frame stands where an instruction set has
loads and stores, and recording a reserved code in ILLOP stands where it has a trap. -/

namespace Sys2Proof.Machine

/-- The word the device will give to the next frame: the head of its script, else the free value of that frame
(20_memory.md rule R58; log entry 8). -/
def State.response (s : State) : Word16 :=
  match s.script with
  | r :: _ => r
  | [] => Config.deviceWord s.frames

/-- The device after it has answered one frame. -/
def State.answered (s : State) : State := { s with script := s.script.tail, frames := s.frames + 1 }

/-- `resp <- Xchg16(cmd)` at word level, from chip-select falling to the end of the gap
(40_serial_register_interface.md rule R90): the engine's registers end as the last phase leaves them (rules R91, R92), the
response is captured in RXDATA, and the link event `Frm(cmd, resp)` is emitted. -/
def exchange (cmd : Word16) (s : State) : State :=
  { s.answered with
    rxdata := s.response, rxsr := s.response, txsr := sentOut s.cfg cmd, csN := true, sck := s.cfg.cpol,
    bitcnt := 0#5, ph := .idle, dly := 0#32, trace := s.trace ++ [.frm cmd s.response] }

/-- `Delay(T)` between frames: it emits `Dly(T)`, and DLY ends at 0 (rule R97). -/
def pause (t : Nat) (s : State) : State := { s with dly := 0#32, trace := s.trace ++ [.dly t] }

/-- `Unwrap(RXDATA[15:SHIFT])`: ACC and LAST_RAW are written together (41_unwrap_tracker.md rules R110, R111). -/
def unwrap (s : State) : State :=
  { s with
    acc := wrapTo s.cfg.w ((s.acc : Int) + shortestDelta s.cfg (rawOf s.cfg s.rxdata) s.lastRaw)
    lastRaw := rawOf s.cfg s.rxdata }

/-- Step 0 of ZERO: `ZERO_OFFSET <- 0 ; ACC <- 0`, LAST_RAW is kept (43_zero_calibration.md rule R140). -/
def clearTracker (s : State) : State := { s with zeroOffset := 0, acc := 0 }

/-- The writes of step 3 of ZERO: `ZERO_OFFSET <- m ; STATUS.ZEROED <- 1` (rule R140). -/
def storeZero (s : State) : State := { s with zeroOffset := s.mechCode }.setZeroed

/-- Acceptance latches the operand: `ARG <- op_arg` (10_state.md rule R26). -/
def latch (arg : Word16) (s : State) : State := { s with arg := arg }

/-- `Result(v) ; seq <- (IDLE, 0)`, the last step of every operation (10_state.md rules R26, R31). -/
def deliver (v : Word16) (s : State) : State := { s with results := s.results ++ [v], seq := ⟨.idle, 0⟩ }

/-- One rising edge of `clk` with `rst = 1`: every register takes its reset value; the instance, what the host and the
device will do next, and the histories are no registers and stay (70_reset_and_hazards.md rules R170, R172). -/
def resetEdge (s : State) : State :=
  { State.resetOf s.cfg with
    inputs := s.inputs, script := s.script, frames := s.frames, trace := s.trace, results := s.results }

/-- The operation port is ready: `SEQ.OP = IDLE` (10_state.md rule R30). -/
abbrev State.Idle (s : State) : Prop := s.seq.op = .idle

/-- What every request has in common. A configuration that breaks rule R8 is refused; a request made while an operation
runs is not accepted and has no effect (10_state.md rule R30; log entry 10); else the effect happens as one transition
(40_serial_register_interface.md rule R99). -/
def whenReady (s : State) (effect : State → State) : Host.Outcome State Fault Refusal :=
  if s.cfg.Valid then (if s.Idle then .next (effect s) else .next s) else .refused .badConfiguration

/-- An operation: its operand is latched, then its step list runs (rules R26, R99). -/
def operate (arg : Word16) (s : State) (body : State → State) : Host.Outcome State Fault Refusal :=
  whenReady s (fun t => body (latch arg t))

/-- The part SAMPLE, MECH, ELEC and ZERO share: the frame `0x0000` and the unwrap update (rules R113, R135, R136,
R140). -/
def takeSample (s : State) : State := unwrap (exchange wordAngleRead s)

/-- A reserved code: ILLOP is recorded, no frame, result 0 (30_encoding.md rule R76). -/
def recordIllegal (s : State) : State := deliver 0x0000#16 s.setIllop

end Sys2Proof.Machine
end

