-- ==== Sys2Proof/Machine/Calibration.lean ====
section
/-! DEFINITION. Zero calibration: ZERO (43_zero_calibration.md rule R140). -/

namespace Sys2Proof.Machine

/-- ZERO (rule R140): the tracker is cleared but for LAST_RAW, one sample is taken, and its reduced value is stored as
the zero offset and delivered. -/
def execZero (arg : Word16) (s : State) : Host.Outcome State Fault Refusal :=
  operate arg s (fun t =>
    let u := takeSample (clearTracker t)
    deliver (zext16 u.mechCode) (storeZero u))

end Sys2Proof.Machine
end

