-- ==== Sys2Proof/Machine/Commands.lean ====
section
/-! DEFINITION. The five command words (30_encoding.md rules R74, R75): each is the frame that carries it
(40_serial_register_interface.md rule R90). The block sends them inside its operations; here each runs by itself
(log entry 7). -/

namespace Sys2Proof.Machine

/-- The frame of `0x47CE` (rules R74, R75, R90). -/
def execCmdIoCurrentConfig (s : State) : Host.Outcome State Fault Refusal :=
  whenReady s (exchange wordIoCurrentConfig)

/-- The frame of `0x452F` (rules R74, R75, R90). -/
def execCmdPolarityZeroLow (s : State) : Host.Outcome State Fault Refusal :=
  whenReady s (exchange wordPolarityZeroLow)

/-- The frame of `0x44FF` (rules R74, R75, R90). -/
def execCmdZeroHigh (s : State) : Host.Outcome State Fault Refusal :=
  whenReady s (exchange wordZeroHigh)

/-- The frame of `0x4840` (rules R74, R75, R90). -/
def execCmdZeroPulseWidth (s : State) : Host.Outcome State Fault Refusal :=
  whenReady s (exchange wordZeroPulseWidth)

/-- The frame of `0x0000` (rules R74, R75, R90). -/
def execCmdAngleRead (s : State) : Host.Outcome State Fault Refusal :=
  whenReady s (exchange wordAngleRead)

end Sys2Proof.Machine
end

