-- ==== Sys2Proof/Machine/Converter.lean ====
section
/-! DEFINITION. The angle converter's operations: MECH and ELEC (42_angle_converter.md rules R135, R136). -/

namespace Sys2Proof.Machine

/-- MECH (rule R135): the result is MECH_CODE, from the new ACC. -/
def execMech (arg : Word16) (s : State) : Host.Outcome State Fault Refusal :=
  operate arg s (fun t =>
    let u := takeSample t
    deliver (zext16 u.mechCode) u)

/-- ELEC (rule R136): the result is ELEC_CODE, from the new ACC. -/
def execElec (arg : Word16) (s : State) : Host.Outcome State Fault Refusal :=
  operate arg s (fun t =>
    let u := takeSample t
    deliver (zext16 u.elecCode) u)

end Sys2Proof.Machine
end

