-- ==== Sys2Proof/Machine/Reserved.lean ====
section
/-! DEFINITION. The reserved operation codes (30_encoding.md rule R76). -/

namespace Sys2Proof.Machine

/-- Reserved code 6 (rule R76). -/
def execReserved6 (arg : Word16) (s : State) : Host.Outcome State Fault Refusal :=
  operate arg s recordIllegal

/-- Reserved code 7 (rule R76). -/
def execReserved7 (arg : Word16) (s : State) : Host.Outcome State Fault Refusal :=
  operate arg s recordIllegal

end Sys2Proof.Machine
end

