-- ==== Sys2Proof/Machine/Serial.lean ====
section
/-! DEFINITION. The serial register interface: RDREG and CONFIG (40_serial_register_interface.md rules R93, R95). -/

namespace Sys2Proof.Machine

/-- RDREG (rule R93). WRREG is the same word (rule R94). -/
def execRdreg (arg : Word16) (s : State) : Host.Outcome State Fault Refusal :=
  operate arg s (fun t =>
    let u := exchange (commandOperand t.arg) t
    deliver u.rxdata u)

/-- One configuration write and the delay after it (rule R95, steps 1 to 8). -/
def configWrite (cmd : Word16) (s : State) : State := pause s.cfg.tCfg (exchange cmd s)

/-- CONFIG (rule R95). -/
def execConfig (arg : Word16) (s : State) : Host.Outcome State Fault Refusal :=
  operate arg s (fun t =>
    let u0 := pause t.cfg.tPwron t
    let u1 := configWrite wordIoCurrentConfig u0
    let u2 := configWrite wordPolarityZeroLow u1
    let u3 := configWrite wordZeroHigh u2
    let u4 := configWrite wordZeroPulseWidth u3
    let u5 := exchange wordAngleRead u4
    deliver 0x0000#16 u5.setConfigured)

end Sys2Proof.Machine
end

