-- ==== Sys2Proof/Machine/Tracker.lean ====
section
/-! DEFINITION. The angle unwrap tracker: SAMPLE (41_unwrap_tracker.md rule R113). -/

namespace Sys2Proof.Machine

/-- SAMPLE (rule R113): the result is the reduced sample, from the new ACC. -/
def execSample (arg : Word16) (s : State) : Host.Outcome State Fault Refusal :=
  operate arg s (fun t =>
    let u := takeSample t
    deliver (zext16 u.mechCode) u)

end Sys2Proof.Machine
end

