-- ==== Sys2Proof/Machine/Dispatch.lean ====
section
/-! DEFINITION. The dispatcher: one arm per constructor of Instr. -/

namespace Sys2Proof.Machine

def exec (i : Instr) (s : State) : Host.Outcome State Fault Refusal :=
  match i with
  -- operation words
  | .rdreg arg => Sys2Proof.Machine.execRdreg arg s
  | .config arg => Sys2Proof.Machine.execConfig arg s
  | .sample arg => Sys2Proof.Machine.execSample arg s
  | .mech arg => Sys2Proof.Machine.execMech arg s
  | .elec arg => Sys2Proof.Machine.execElec arg s
  | .zero arg => Sys2Proof.Machine.execZero arg s
  | .reserved6 arg => Sys2Proof.Machine.execReserved6 arg s
  | .reserved7 arg => Sys2Proof.Machine.execReserved7 arg s
  -- command words
  | .cmdIoCurrentConfig => Sys2Proof.Machine.execCmdIoCurrentConfig s
  | .cmdPolarityZeroLow => Sys2Proof.Machine.execCmdPolarityZeroLow s
  | .cmdZeroHigh => Sys2Proof.Machine.execCmdZeroHigh s
  | .cmdZeroPulseWidth => Sys2Proof.Machine.execCmdZeroPulseWidth s
  | .cmdAngleRead => Sys2Proof.Machine.execCmdAngleRead s

end Sys2Proof.Machine
end

