-- ==== Sys2Proof/Machine/Sequencer.lean ====
section
/-! DEFINITION. The sequencer at clock level (10_state.md rule R26): the step lists of the operations, written from their
rules (R76, R93, R95, R113, R135, R136, R140) apart from the meanings, and what the one-cycle steps do. -/

namespace Sys2Proof.Machine

/-- What one step of a list is. -/
inductive Action where
  /-- `Delay(T)`, `T` in nanoseconds (rule R97). -/
  | delay (t : Nat)
  /-- `RXDATA <- Xchg16(cmd)` (rule R90). -/
  | frame (cmd : Word16)
  /-- `Unwrap(RXDATA[15:SHIFT])` (rule R111). -/
  | update
  /-- `ZERO_OFFSET <- 0 ; ACC <- 0` (rule R140, step 0). -/
  | clear
  /-- The last step: `Result(v) ; seq <- (IDLE, 0)` with the writes the list puts beside it. -/
  | finish
  deriving DecidableEq, Repr

/-- The step lists; `none` where an operation has no such step (rule R26: no list branches, loops, retries or skips). -/
def stepAction (c : Config) (arg : Word16) : OpName → Nat → Option Action
  | .rdreg, 0 => some (.frame (commandOperand arg))
  | .rdreg, 1 => some .finish
  | .config, 0 => some (.delay c.tPwron)
  | .config, 1 => some (.frame wordIoCurrentConfig)
  | .config, 2 => some (.delay c.tCfg)
  | .config, 3 => some (.frame wordPolarityZeroLow)
  | .config, 4 => some (.delay c.tCfg)
  | .config, 5 => some (.frame wordZeroHigh)
  | .config, 6 => some (.delay c.tCfg)
  | .config, 7 => some (.frame wordZeroPulseWidth)
  | .config, 8 => some (.delay c.tCfg)
  | .config, 9 => some (.frame wordAngleRead)
  | .config, 10 => some .finish
  | .sample, 0 => some (.frame wordAngleRead)
  | .sample, 1 => some .update
  | .sample, 2 => some .finish
  | .mech, 0 => some (.frame wordAngleRead)
  | .mech, 1 => some .update
  | .mech, 2 => some .finish
  | .elec, 0 => some (.frame wordAngleRead)
  | .elec, 1 => some .update
  | .elec, 2 => some .finish
  | .zero, 0 => some .clear
  | .zero, 1 => some (.frame wordAngleRead)
  | .zero, 2 => some .update
  | .zero, 3 => some .finish
  | .ill, 0 => some .finish
  | _, _ => none

/-- The operation an `op_code` starts (30_encoding.md rule R72). -/
def opOfCode (code : BitVec 3) : OpName :=
  if code = 0#3 then .rdreg
  else if code = 1#3 then .config
  else if code = 2#3 then .sample
  else if code = 3#3 then .mech
  else if code = 4#3 then .elec
  else if code = 5#3 then .zero
  else .ill

/-- The step the sequencer is at. -/
def State.current (s : State) : Option Action := stepAction s.cfg s.arg s.seq.op s.seq.step

/-- What `DLY` is loaded with on entry to a step: the count of a delay step, 0 for any other (rules R28, R97; log
entry 14). -/
def entryDelay (c : Config) : Option Action → BitVec 32
  | some (.delay t) => BitVec.ofNat 32 (c.cycles t)
  | _ => 0#32

/-- `SEQ <- (op, n)`, with the delay counter loaded if that step is a delay. -/
def enterStep (op : OpName) (n : Nat) (s : State) : State :=
  { s with seq := ⟨op, n⟩, dly := entryDelay s.cfg (stepAction s.cfg s.arg op n) }

/-- `SEQ <- (OP, STEP + 1)` (rule R26). -/
def advance (s : State) : State := enterStep s.seq.op (s.seq.step + 1) s

/-- Acceptance: `SEQ <- (op, 0)`, `ARG <- op_arg` (rules R26, R30, R57). -/
def acceptEdge (w : OpWord) (s : State) : State := enterStep (opOfCode (opCode w)) 0 (latch (opArg w) s)

/-- `DLY` counts down by one (rule R28). -/
def countDown (s : State) : State := { s with dly := s.dly - 1#32 }

/-- The result word the running operation delivers in its last step (30_encoding.md rule R79). -/
def State.resultWord (s : State) : Word16 :=
  match s.seq.op with
  | .rdreg => s.rxdata
  | .sample => zext16 s.mechCode
  | .mech => zext16 s.mechCode
  | .elec => zext16 s.elecCode
  | .zero => zext16 s.mechCode
  | .config => 0x0000#16
  | .ill => 0x0000#16
  | .idle => 0x0000#16

/-- The writes the list puts beside `Result` in the last step (rules R76, R95, R140). -/
def lastWrites (s : State) : State :=
  match s.seq.op with
  | .config => s.setConfigured
  | .zero => storeZero s
  | .ill => s.setIllop
  | _ => s

/-- The last step: its writes, the result, and the return to idle, all read from the values before the step
(00_scope.md rule R12). -/
def finishEdge (s : State) : State := deliver s.resultWord (lastWrites s)

end Sys2Proof.Machine
end

