-- ==== Sys2Proof/Machine/Clock.lean ====
section
/-! DEFINITION. One rising edge of `clk`: the frame engine by phase and bit (40_serial_register_interface.md rules R91,
R92), the delay counter (rule R97), the sequencer (10_state.md rule R26) and reset (70_reset_and_hazards.md rule R170);
and the block closed with its host and its device. -/

namespace Sys2Proof.Machine

/-- The input pins sampled on a rising edge of `clk` (10_state.md rules R30, R33). -/
structure PinIn where
  rst : Bool
  opValid : Bool
  opw : OpWord
  sdi : Bool
  deriving DecidableEq, Repr

/-- What `DLY` holds so that the next edge of `sck` comes `N_HALF` cycles later (rule R92; log entry 12). -/
def halfPeriod (c : Config) : BitVec 32 := BitVec.ofNat 32 (c.nHalf - 1)

/-- A leading edge: `SCK` leaves `CPOL`. With `CPHA = 0` it samples `sdi`; with `CPHA = 1` it shifts `TXSR`, except in the
first period, when all 16 bits are still to shift (rule R92). -/
def leadingEdge (sdi : Bool) (s : State) : State :=
  { s with
    sck := !s.cfg.cpol, dly := halfPeriod s.cfg,
    rxsr := if s.cfg.cpha then s.rxsr else shiftIn s.rxsr sdi,
    txsr := if s.cfg.cpha ∧ s.bitcnt ≠ 16#5 then shiftOut s.txsr else s.txsr }

/-- A trailing edge: `SCK` returns to `CPOL` and one bit fewer is left. With `CPHA = 0` it shifts `TXSR`; with `CPHA = 1` it
samples `sdi` (rule R92). -/
def trailingEdge (sdi : Bool) (s : State) : State :=
  { s with
    sck := s.cfg.cpol, dly := halfPeriod s.cfg, bitcnt := s.bitcnt - 1#5,
    rxsr := if s.cfg.cpha then shiftIn s.rxsr sdi else s.rxsr,
    txsr := if s.cfg.cpha then s.txsr else shiftOut s.txsr }

/-- A frame opens: phase IDLE to SETUP (rule R91; step F0 of rule R90). -/
def openFrame (cmd : Word16) (s : State) : State :=
  { s with csN := false, txsr := cmd, bitcnt := 16#5, dly := BitVec.ofNat 32 s.cfg.nCs, ph := .setup }

/-- A frame closes: phase HOLD to GAP; the response is captured and the link event emitted (rule R91; step F4 of rule
R90). -/
def closeFrame (cmd : Word16) (s : State) : State :=
  { s with
    csN := true, rxdata := s.rxsr, dly := BitVec.ofNat 32 s.cfg.nIdle, ph := .gap,
    trace := s.trace ++ [.frm cmd s.rxsr] }

/-- One edge of a frame step, by phase (rule R91). A phase that waits on `DLY` shows 0 for a cycle before it is left
(log entry 13). -/
def frameEdge (cmd : Word16) (sdi : Bool) (s : State) : State :=
  match s.ph with
  | .idle => openFrame cmd s
  | .setup => if s.dly = 0#32 then { s with ph := .shift, dly := halfPeriod s.cfg } else countDown s
  | .shift =>
    if s.bitcnt = 0#5 ∧ s.sck = s.cfg.cpol then { s with dly := BitVec.ofNat 32 s.cfg.nCs, ph := .hold }
    else if s.dly ≠ 0#32 then countDown s
    else if s.sck = s.cfg.cpol then leadingEdge sdi s
    else trailingEdge sdi s
  | .hold => if s.dly = 0#32 then closeFrame cmd s else countDown s
  | .gap => if s.dly = 0#32 then advance { s with ph := .idle } else countDown s

/-- One edge of the step the sequencer is at. In a state whose `SEQ` names no step nothing moves (log entry 19). -/
def stepEdge (sdi : Bool) (s : State) : State :=
  match s.current with
  | some (.delay t) => if s.dly = 0#32 then advance { s with trace := s.trace ++ [.dly t] } else countDown s
  | some (.frame cmd) => frameEdge cmd sdi s
  | some .update => advance (unwrap s)
  | some .clear => advance (clearTracker s)
  | some .finish => finishEdge s
  | none => s

/-- One rising edge of `clk`. Reset wins over everything (60_exceptions.md rule R154); an idle block accepts a presented
operation word and otherwise waits (10_state.md rule R30); a busy block runs its step and looks at no request. -/
def tick (p : PinIn) (s : State) : State :=
  if p.rst then resetEdge s
  else if s.Idle then (if p.opValid then acceptEdge p.opw s else s)
  else stepEdge p.sdi s

/-- The operation word the host is presenting, if its next input is one. -/
def State.presented (s : State) : Option OpWord :=
  match s.inputs with
  | .word (.opw w) :: _ => some w
  | .edge w :: _ => some w
  | _ => none

/-- The bit the device drives on `sdi`: the bit of its response word for the period in progress, bit 15 first
(20_memory.md rule R51, 40_serial_register_interface.md rule R92). -/
def State.deviceBit (s : State) : Bool := s.response.getLsbD (s.bitcnt.toNat - 1)

/-- The pins the host and the device drive in this cycle, with `rst = 0`. -/
def State.pins (s : State) : PinIn :=
  { rst := false, opValid := s.presented.isSome, opw := s.presented.getD 0#19, sdi := s.deviceBit }

/-- The step in progress is a frame. -/
def State.inFrame (s : State) : Bool :=
  match s.current with
  | some (.frame _) => true
  | _ => false

/-- This edge closes a frame (step F4 of rule R90). -/
abbrev State.ClosesFrame (s : State) : Prop :=
  ¬ s.Idle ∧ s.inFrame = true ∧ s.ph = .hold ∧ s.dly = 0#32

/-- The host withdraws a request in the cycle in which it is accepted (10_state.md rule R30). -/
def hostMoves (before after : State) : State :=
  if before.Idle ∧ before.presented.isSome then { after with inputs := before.inputs.tail } else after

/-- The device moves to its next word when a frame has closed. -/
def deviceMoves (before after : State) : State := if before.ClosesFrame then after.answered else after

/-- One cycle of the block closed with its host and its device, `rst = 0`. -/
def clock (s : State) : State := deviceMoves s (hostMoves s (tick s.pins s))

/-- `n` cycles. -/
def clockRun : Nat → State → State
  | 0, s => s
  | n + 1, s => clockRun n (clock s)

/-- What the clock level needs of the configuration: that it is legal (rule R8) and that `DLY` can time it (log
entry 20). -/
def whenTimed (s : State) (o : Host.Outcome State Fault Refusal) : Host.Outcome State Fault Refusal :=
  if s.cfg.Valid then (if s.cfg.Timed then o else .refused .badTiming) else .refused .badConfiguration

/-- The next cycle of a busy block, whose `SEQ` must name a step (log entry 19). -/
def runningCycle (s : State) : Host.Outcome State Fault Refusal :=
  match s.current with
  | some _ => .next (clock s)
  | none => .fault .strayStep

/-- A cycle of a busy block as an outcome. -/
def clockStep (s : State) : Host.Outcome State Fault Refusal := whenTimed s (runningCycle s)

end Sys2Proof.Machine
end

