-- ==== Sys2Proof/Machine/Ports.lean ====
section
/-! DEFINITION. The output ports and pins as functions of the state and of `rst` (10_state.md rules R30 to R33,
70_reset_and_hazards.md rule R170). -/

namespace Sys2Proof.Machine

/-- The outputs of the block. The K-bit and W-bit observation ports are numbers below `2^K` and `2^W`. -/
structure PortsOut where
  opReady : Bool
  resValid : Bool
  resData : Word16
  accO : Nat
  lastRawO : Nat
  zeroOffsetO : Nat
  mechCodeO : Nat
  elecCodeO : Nat
  statusO : BitVec 4
  rxdataO : Word16
  csN : Bool
  sck : Bool
  sdo : Bool
  deriving DecidableEq, Repr

/-- The sequencer is in the last step of an operation (rule R31). -/
def State.finishing (s : State) : Bool := decide (¬ s.Idle ∧ s.current = some .finish)

/-- The outputs in a cycle. `op_ready`: rule R30. `res_valid`, `res_data`: rule R31. The observation ports: rule R32. The
pins: rule R33. With `rst = 1` the handshakes are 0 and the link is at rest at once (rule R170). -/
def outputs (rst : Bool) (s : State) : PortsOut :=
  { opReady := !rst && !s.busy
    resValid := !rst && s.finishing
    resData := if !rst && s.finishing then s.resultWord else 0x0000#16
    accO := s.acc
    lastRawO := s.lastRaw
    zeroOffsetO := s.zeroOffset
    mechCodeO := s.mechCode
    elecCodeO := s.elecCode
    statusO := s.status
    rxdataO := s.rxdata
    csN := rst || s.csN
    sck := if rst then s.cfg.cpol else s.sck
    sdo := !rst && !s.csN && s.txsr.getLsbD 15 }

end Sys2Proof.Machine
end

