-- ==== Sys2Proof/Machine/Step.lean ====
section
/-! DEFINITION. The step function: reset, one whole operation from an idle block, one clock cycle of a busy one. -/

namespace Sys2Proof.Machine

/-- The state once the host's next input has been taken. -/
def State.dropInput (s : State) : State := { s with inputs := s.inputs.tail }

/-- An idle block takes the word presented to it: a word that decodes runs, and an unlisted bare command word is refused
by name. -/
def runWord (w : InWord) (s : State) : Host.Outcome State Fault Refusal :=
  match decode w with
  | .ok i => exec i s.dropInput
  | .error (.unlistedCommand c) => .refused (.unlistedCommand c)

/-- An idle block with what the host does: nothing, now or for a cycle (it waits, 60_exceptions.md rule R159), a word, an
operation word for the clock level, whose accepting edge is one cycle (10_state.md rule R30), or a reset. -/
def idleStep (s : State) : Host.Outcome State Fault Refusal :=
  match s.inputs with
  | [] => .next s
  | .pass :: _ => .next s.dropInput
  | .rst :: _ => .next (resetEdge s.dropInput)
  | .word w :: _ => runWord w s
  | .edge _ :: _ => whenTimed s (.next (clock s))

/-- A busy block: a reset abandons the operation, in whatever cycle it comes (70_reset_and_hazards.md rule R172); otherwise
a cycle passes, and a presented word is held, not accepted (10_state.md rule R30). -/
def busyStep (s : State) : Host.Outcome State Fault Refusal :=
  match s.inputs with
  | .rst :: _ => .next (resetEdge s.dropInput)
  | .pass :: _ => clockStep s.dropInput
  | _ => clockStep s

/-- One step. A configuration that breaks 00_scope.md rule R8 is refused before any other rule is used. A word presented
to an idle block runs as one atomic transition (40_serial_register_interface.md rule R99); an operation word presented for
the clock level is accepted by one rising edge of `clk`, and in the middle of an operation a step is one rising edge (log
entry 5). -/
def step (s : State) : Host.Outcome State Fault Refusal :=
  if s.cfg.Valid then (if s.Idle then idleStep s else busyStep s) else .refused .badConfiguration

/-- `s` with an instruction's word presented to an idle block, so that the next step takes it (log entry 6). A number that
is no word of the format presents nothing. -/
def State.withFetchWord (s : State) (nbits w : Nat) : State :=
  match tableWord nbits w with
  | some x => { s with inputs := .word x :: s.inputs, seq := ⟨.idle, 0⟩ }
  | none => s

end Sys2Proof.Machine
end

