-- ==== Sys2Proof/Safety.lean ====
section
/-! DEFINITION. The terms claims are stated in: the invariant of the machine, runs of instructions and of samples, the
fault bit, the meaning of an angle code in radians, and the host procedure CALIBRATE as data. -/

namespace Sys2Proof.Machine

/-- The widths of the three tracker registers (10_state.md rules R21 to R23), for a configuration that meets rule R8. -/
abbrev State.RangesOk (s : State) : Prop :=
  s.cfg.Valid ∧ s.lastRaw < s.cfg.res ∧ s.acc < 2 ^ s.cfg.w ∧ s.zeroOffset < s.cfg.res

/-- The step in progress is a delay. -/
def State.inDelay (s : State) : Bool :=
  match s.current with
  | some (.delay _) => true
  | _ => false

/-- The sequencer is idle at `(IDLE, 0)`, or at a step of the list of its operation (rule R26); `DLY` is 0 outside delays
and frames (rule R158). -/
abbrev State.SeqOk (s : State) : Prop :=
  (s.Idle → s.seq.step = 0 ∧ s.ph = .idle) ∧ (¬ s.Idle → s.current ≠ none) ∧
    (s.ph = .idle → s.inDelay = false → s.dly = 0#32)

/-- The frame engine's registers by phase (rules R27, R91): a phase other than IDLE occurs only in a frame step, and in each
phase the chip select, the clock pin and the bit count are what the phase says. -/
abbrev State.LinkOk (s : State) : Prop :=
  (s.ph ≠ .idle → s.inFrame = true) ∧
  (s.ph = .idle → s.csN = true ∧ s.sck = s.cfg.cpol ∧ s.bitcnt = 0#5) ∧
  (s.ph = .setup → s.csN = false ∧ s.sck = s.cfg.cpol ∧ s.bitcnt = 16#5) ∧
  (s.ph = .shift → s.csN = false ∧ s.bitcnt ≤ 16#5 ∧ (s.sck ≠ s.cfg.cpol → s.bitcnt ≠ 0#5)) ∧
  (s.ph = .hold → s.csN = false ∧ s.sck = s.cfg.cpol ∧ s.bitcnt = 0#5) ∧
  (s.ph = .gap → s.csN = true ∧ s.sck = s.cfg.cpol ∧ s.bitcnt = 0#5)

/-- The invariant of the machine. -/
abbrev State.Inv (s : State) : Prop := s.RangesOk ∧ s.SeqOk ∧ s.LinkOk

/-- A run of the block is free of the one condition a model reads as a fault while `ILLOP = 0` (30_encoding.md rule R76,
60_exceptions.md rule R152). -/
abbrev State.FaultFree (s : State) : Prop := s.illop = false

/-- The state of an outcome, if it is a next state. -/
def nextState? : Host.Outcome State Fault Refusal → Option State
  | .next s => some s
  | .fault _ => none
  | .refused _ => none

/-- Instructions one after the other, stopping where one stops. -/
def runInstrs : List Instr → State → Host.Outcome State Fault Refusal
  | [], s => .next s
  | i :: is, s =>
    match exec i s with
    | .next t => runInstrs is t
    | .fault f => .fault f
    | .refused r => .refused r

/-- The tracker's updates for a sequence of response words, one after the other (rule R111). -/
def samples : List Word16 → State → State
  | [], s => s
  | r :: rs, s => samples rs (unwrap { s with rxdata := r })

/-- The reference firmware's form of the update, for comparison only: `ACC <- (ACC + raw − LAST_RAW) mod 2^W` without
modular correction (rule R118). The block does not do this. -/
def referenceUnwrap (s : State) : State :=
  { s with
    acc := wrapTo s.cfg.w ((s.acc : Int) + (rawOf s.cfg s.rxdata : Int) - (s.lastRaw : Int))
    lastRaw := rawOf s.cfg s.rxdata }

/-- The reference form for a sequence of response words, one after the other (rule R118). -/
def referenceSamples : List Word16 → State → State
  | [], s => s
  | r :: rs, s => referenceSamples rs (referenceUnwrap { s with rxdata := r })

/-- The device's answer to the frame `n` frames from now: its script's word, else that frame's free value (20_memory.md rule
R58). -/
def State.responseAt (s : State) (n : Nat) : Word16 :=
  match s.script.drop n with
  | r :: _ => r
  | [] => Config.deviceWord (s.frames + n)

/-- The instruction is ZERO. -/
def isZero : Instr → Bool
  | .zero _ => true
  | _ => false

/-- The instruction writes the tracker: SAMPLE, MECH, ELEC, ZERO (10_state.md rule R35). -/
def writesTracker : Instr → Bool
  | .sample _ => true
  | .mech _ => true
  | .elec _ => true
  | .zero _ => true
  | _ => false

/-- How many frames an instruction makes (20_memory.md rule R50, 40_serial_register_interface.md rule R99). -/
def frameCount : Instr → Nat
  | .config _ => 5
  | .reserved6 _ => 0
  | .reserved7 _ => 0
  | _ => 1

/-- The exact real number an angle code stands for: `c × 2π / RES` (00_scope.md rule R14). -/
noncomputable def angleRadians (c : Config) (code : Nat) : ℝ := (code : ℝ) * (2 * Real.pi) / (c.res : ℝ)

/-- What the host does around ZERO (43_zero_calibration.md rule R142). The block takes part in `request` alone. -/
inductive HostAction where
  /-- Apply-Field: the host and the power stage. -/
  | applyField
  /-- Settle: the host waits this many nanoseconds. -/
  | settle (t : Nat)
  /-- The host presents an operation word to the block. -/
  | request (w : InWord)
  /-- Release: the host and the power stage. -/
  | release
  deriving DecidableEq, Repr

/-- The pseudo-operation CALIBRATE (rules R80, R142). -/
def calibrate (c : Config) : List HostAction :=
  [.applyField, .settle c.tSettle, .request (encode (.zero 0x0000#16)), .release]

/-- The pseudo-operation WRREG: RDREG with its result ignored (rules R80, R94). -/
def wrreg (cmd : Word16) : Instr := .rdreg cmd

/-- What the block sees of a host procedure. -/
def blockInputs : List HostAction → List Input
  | [] => []
  | .request w :: rest => .word w :: blockInputs rest
  | .applyField :: rest => blockInputs rest
  | .settle _ :: rest => blockInputs rest
  | .release :: rest => blockInputs rest

end Sys2Proof.Machine
end

