-- ==== Sys2Proof/Certificates/Slice0/Obligations.lean ====
section
/-! DEFINITION. The statements for the provers, each from a numbered rule of spec/ or from the sections its entry in
OBLIGATIONS.json cites. Every one is about the machine, none about a program. -/

open Sys2Proof Sys2Proof.Machine

/-! ## Reset -/

/-- R170: a rising edge with `rst = 1` gives every register of R20 its reset value, whatever the other pins are; while
`rst = 1` the handshakes are 0 and the link is at rest; once `rst` is 0 again the block is idle and ready; the power-up
state is what a reset leaves. The reset values the source does not give are the spec's own decision D25. The fields that
stay are no registers of R20: the parameters (R34) and the trace (R172, "a history and not a register"). That the device's
script and its frame count stay is the model's choice (log entry 9, with log entry 8), and so is that the record of
results and the host's future inputs stay (log entries 17 and 6). -/
def Obligations.ResetEdgeResetsEveryRegister : Prop :=
  ∀ (s : State) (v d : Bool) (w : OpWord),
    tick ⟨true, v, w, d⟩ s =
      { cfg := s.cfg, lastRaw := 0, acc := 0, zeroOffset := 0, configured := false, zeroed := false, illop := false,
        rxdata := 0x0000#16, seq := ⟨.idle, 0⟩, arg := 0x0000#16, csN := true, sck := s.cfg.cpol,
        txsr := 0x0000#16, rxsr := 0x0000#16, bitcnt := 0#5, ph := .idle, dly := 0#32,
        inputs := s.inputs, script := s.script, frames := s.frames, trace := s.trace, results := s.results } ∧
    ((outputs true s).opReady = false ∧ (outputs true s).resValid = false ∧ (outputs true s).csN = true ∧
      (outputs true s).sck = s.cfg.cpol ∧ (outputs true s).sdo = false) ∧
    ((tick ⟨true, v, w, d⟩ s).Idle ∧ (outputs false (tick ⟨true, v, w, d⟩ s)).opReady = true) ∧
    tick ⟨true, v, w, d⟩ State.reset = State.reset

/-- R39, R171: the machine starts with every register at its reset value, and then, for any legal configuration, the
derived values are all 0. The configuration of `State.reset` is the model's choice where rule R6 leaves it OPEN (log
entry 2); no clause here rests on it. -/
def Obligations.PowerUpStateIsReset : Prop :=
  (State.reset.lastRaw = 0 ∧ State.reset.acc = 0 ∧ State.reset.zeroOffset = 0 ∧ State.reset.configured = false ∧
    State.reset.zeroed = false ∧ State.reset.illop = false ∧ State.reset.rxdata = 0x0000#16 ∧
    State.reset.seq = ⟨.idle, 0⟩ ∧ State.reset.arg = 0x0000#16 ∧ State.reset.csN = true ∧
    State.reset.sck = State.reset.cfg.cpol ∧ State.reset.txsr = 0x0000#16 ∧ State.reset.rxsr = 0x0000#16 ∧
    State.reset.bitcnt = 0#5 ∧ State.reset.ph = .idle ∧ State.reset.dly = 0#32) ∧
  ∀ c : Config, c.Valid →
    (State.resetOf c).mechCode = 0 ∧ (State.resetOf c).elecCode = 0 ∧ (State.resetOf c).status = 0#4

/-- R154, R160, R172: a reset wins over whatever the block is doing, at any time. The step that takes it, of an idle or a
busy block, leaves every register at its reset value, delivers nothing, and adds nothing to the link trace, in the middle
of a frame too. And a run reaches it in every cycle: an operation accepted at one edge, left to run for `k` more cycles and
then reset ends with the registers of a reset and the histories of those `k + 1` cycles, whatever `k` is. That the response
word of a cut frame stays with the device is the model's choice (log entry 9), and so are the record of results that stays
(log entry 17) and the inputs that show a run cycle by cycle (log entries 5 and 18). -/
def Obligations.ResetAbandonsTheOperation : Prop :=
  (∀ (s : State) (rest : List Input), s.cfg.Valid → s.inputs = .rst :: rest →
    step s = .next { State.resetOf s.cfg with
      inputs := rest, script := s.script, frames := s.frames, trace := s.trace, results := s.results }) ∧
  ∀ (s : State) (w : OpWord) (k : Nat) (rest : List Input), s.Inv → s.cfg.Timed → s.Idle →
    s.inputs = .edge w :: (List.replicate k .pass ++ .rst :: rest) →
      Sys2Proof.core.run (k + 2) s = .next ({ State.resetOf s.cfg with
        inputs := rest, script := (clockRun (k + 1) s).script, frames := (clockRun (k + 1) s).frames,
        trace := (clockRun (k + 1) s).trace, results := (clockRun (k + 1) s).results } : State)

/-! ## Encoding -/

/-- R71, R72, R74: decoding what the encoder writes gives the instruction back, with every operand bit. -/
def Obligations.DecodeEncodeRoundTrip : Prop := ∀ i : Instr, decode (encode i) = .ok i

/-- R71, R72, R74: a word that decodes is the one word the encoder writes for that instruction. -/
def Obligations.EncodeDecodeRoundTrip : Prop := ∀ (w : InWord) (i : Instr), decode w = .ok i → encode i = w

/-- R72: the decoder agrees with the eight match and mask rows, and the operand is `OPW[15:0]` in each. -/
def Obligations.OperationRowsMatchMask : Prop :=
  ∀ w : OpWord,
    (w &&& 0x70000#19 = 0x00000#19 ↔ decode (.opw w) = .ok (.rdreg (w.setWidth 16))) ∧
    (w &&& 0x70000#19 = 0x10000#19 ↔ decode (.opw w) = .ok (.config (w.setWidth 16))) ∧
    (w &&& 0x70000#19 = 0x20000#19 ↔ decode (.opw w) = .ok (.sample (w.setWidth 16))) ∧
    (w &&& 0x70000#19 = 0x30000#19 ↔ decode (.opw w) = .ok (.mech (w.setWidth 16))) ∧
    (w &&& 0x70000#19 = 0x40000#19 ↔ decode (.opw w) = .ok (.elec (w.setWidth 16))) ∧
    (w &&& 0x70000#19 = 0x50000#19 ↔ decode (.opw w) = .ok (.zero (w.setWidth 16))) ∧
    (w &&& 0x70000#19 = 0x60000#19 ↔ decode (.opw w) = .ok (.reserved6 (w.setWidth 16))) ∧
    (w &&& 0x70000#19 = 0x70000#19 ↔ decode (.opw w) = .ok (.reserved7 (w.setWidth 16)))

/-- R74, R77: a command word is matched on all 16 bits; any word outside the five is rejected by name. -/
def Obligations.CommandWordsMatchAllBits : Prop :=
  ∀ w : Word16,
    (decode (.cmd16 w) = .ok .cmdIoCurrentConfig ↔ w = 0x47CE#16) ∧
    (decode (.cmd16 w) = .ok .cmdPolarityZeroLow ↔ w = 0x452F#16) ∧
    (decode (.cmd16 w) = .ok .cmdZeroHigh ↔ w = 0x44FF#16) ∧
    (decode (.cmd16 w) = .ok .cmdZeroPulseWidth ↔ w = 0x4840#16) ∧
    (decode (.cmd16 w) = .ok .cmdAngleRead ↔ w = 0x0000#16) ∧
    (decode (.cmd16 w) = .error (.unlistedCommand w) ↔
      w ∉ [0x47CE#16, 0x452F#16, 0x44FF#16, 0x4840#16, 0x0000#16])

/-- Words written out from R71, R72 and R74 (vectors V1 to V12 of 95_test_vectors.md) decode to what they stand for. -/
def Obligations.WrittenOutWordsDecode : Prop :=
  decodeTableWord 24 0b0000100011111001110 = some (.rdreg 0x47CE#16) ∧
  decodeTableWord 24 0b0011011111011101111 = some (.config 0xBEEF#16) ∧
  decodeTableWord 24 0b0100000000000000000 = some (.sample 0x0000#16) ∧
  decodeTableWord 24 0b0110000000000000000 = some (.mech 0x0000#16) ∧
  decodeTableWord 24 0b1001111111111111111 = some (.elec 0xFFFF#16) ∧
  decodeTableWord 24 0b1010000000000000000 = some (.zero 0x0000#16) ∧
  decodeTableWord 24 0b1100000000000000000 = some (.reserved6 0x0000#16) ∧
  decodeTableWord 24 0b1111010101111001101 = some (.reserved7 0xABCD#16) ∧
  decodeTableWord 16 0b0100011111001110 = some .cmdIoCurrentConfig ∧
  decodeTableWord 16 0b0100010100101111 = some .cmdPolarityZeroLow ∧
  decodeTableWord 16 0b0100010011111111 = some .cmdZeroHigh ∧
  decodeTableWord 16 0b0100100001000000 = some .cmdZeroPulseWidth ∧
  decodeTableWord 16 0b0000000000000000 = some .cmdAngleRead

/-! ## The step -/

/-- A step of an idle block whose next input is a word that decodes is `exec` of that instruction, with the input taken and
nothing else around it. Of an operation word this rests on R30 and R99. That a presented word runs as one step is the
model's choice (log entry 5, deduced from R99), and that a bare command word can be presented by itself and runs is its
choice too (log entry 7). -/
def Obligations.StepRunsTheDecodedInstruction : Prop :=
  ∀ (s : State) (w : InWord) (rest : List Input) (i : Instr),
    s.Idle → s.inputs = .word w :: rest → decode w = .ok i → step s = exec i { s with inputs := rest }

/-- A bare command word outside the five of R74 is refused by name (R77: "The block itself sends only those five"), in
every legal configuration. That such a word can be presented by itself at all is the model's choice (log entry 7). -/
def Obligations.UnlistedBareCommandIsRefused : Prop :=
  ∀ (s : State) (w : Word16) (rest : List Input),
    s.cfg.Valid → s.Idle → s.inputs = .word (.cmd16 w) :: rest →
    w ∉ [0x47CE#16, 0x452F#16, 0x44FF#16, 0x4840#16, 0x0000#16] → step s = .refused (.unlistedCommand w)

/-- R159: an idle block with nothing presented waits; all state survives, whether the host has nothing more to do or lets a
cycle pass. That such a cycle is an entry of the inputs is the model's choice (log entry 18). -/
def Obligations.IdleBlockWaits : Prop :=
  ∀ s : State, s.cfg.Valid → s.Idle →
    (s.inputs = [] → step s = .next s) ∧
    ∀ rest, s.inputs = .pass :: rest → step s = .next { s with inputs := rest }

/-- R30: while an operation runs a presented word is not accepted, whether it is presented to run whole or for the clock
level. A step is then one cycle of the running operation, and executing any instruction has none of its effect. A cycle in
which nothing is presented moves the operation on alike. R30 lets the host hold or withdraw its request and says that
nothing is queued; that the request stays presented after the step, and that `exec` in mid-operation answers the same
state, are the model's choice (log entry 10), and so is that a step is then one cycle (log entries 5 and 18). -/
def Obligations.BusyBlockHoldsTheRequest : Prop :=
  ∀ s : State, s.Inv → s.cfg.Timed → ¬ s.Idle →
    (∀ (a : Input) (rest : List Input), ((∃ w, a = .word w) ∨ ∃ w, a = .edge w) → s.inputs = a :: rest →
      step s = .next (clock s) ∧ (clock s).inputs = a :: rest) ∧
    (s.inputs = [] → step s = .next (clock s) ∧ (clock s).inputs = []) ∧
    (∀ rest, s.inputs = .pass :: rest → step s = .next { clock s with inputs := rest }) ∧
    ∀ i : Instr, exec i s = .next s

/-- R8: a configuration that breaks a constraint is refused, whatever the instruction and the state: by every instruction
and by every step, with any inputs, idle or busy, so before any other rule is used. -/
def Obligations.IllegalConfigurationIsRefused : Prop :=
  ∀ (s : State) (i : Instr),
    ¬ (s.cfg.shift ≤ 15 ∧ 16 - s.cfg.shift ≤ s.cfg.w ∧ 1 ≤ s.cfg.pp ∧ s.cfg.pp ≤ 2 ^ (16 - s.cfg.shift)) →
      exec i s = .refused .badConfiguration ∧ step s = .refused .badConfiguration

/-! ## Results: what each instruction does from an idle block, and that it completes. The next state is written out: every
field not named in it is unchanged. `s.response` is the device's answer to the next frame, which nothing constrains (R58);
`sentOut` is the transmit register after 16 periods (log entry 15). In each of them the value of TXSR is the model's choice
(log entry 15, deduced from R92), and `results` is the model's record of the result port (log entry 17). -/

/-- R93, R92. Encoding, command word unchanged on the link, result the response word; the tracker and the flags are
untouched. The value left in TXSR (log entry 15,
deduced from R92) and the record of results (log entry 17) are the model's choice. -/
def Obligations.RdregSendsItsOperand : Prop :=
  ∀ (c : Word16) (s : State), s.Inv → s.Idle →
    decode (.opw (0b000#3 ++ c)) = .ok (.rdreg c) ∧
    exec (.rdreg c) s = .next { s with
      arg := c, rxdata := s.response, rxsr := s.response, txsr := sentOut s.cfg c,
      script := s.script.tail, frames := s.frames + 1,
      trace := s.trace ++ [.frm c s.response], results := s.results ++ [s.response] }

/-- R95, with the spec's own decisions D18 and D19. The five response words are those of the next five frames, which
nothing constrains; none of them is examined. The value left in TXSR (log entry 15,
deduced from R92) and the record of results (log entry 17) are the model's choice. -/
def Obligations.ConfigRunsTheBringUpSequence : Prop :=
  ∀ (a : Word16) (s : State), s.Inv → s.Idle →
    decode (.opw (0b001#3 ++ a)) = .ok (.config a) ∧
    exec (.config a) s = .next { s with
      arg := a, rxdata := s.responseAt 4, rxsr := s.responseAt 4, txsr := sentOut s.cfg 0x0000#16, configured := true,
      script := s.script.drop 5, frames := s.frames + 5,
      trace := s.trace ++ [.dly s.cfg.tPwron, .frm 0x47CE#16 (s.responseAt 0), .dly s.cfg.tCfg,
        .frm 0x452F#16 (s.responseAt 1), .dly s.cfg.tCfg, .frm 0x44FF#16 (s.responseAt 2), .dly s.cfg.tCfg,
        .frm 0x4840#16 (s.responseAt 3), .dly s.cfg.tCfg, .frm 0x0000#16 (s.responseAt 4)],
      results := s.results ++ [0x0000#16] }

/-- R113. `raw`, `d` and `delta` are those of R110 and R111 and `m` that of R112, written out in integers. The value left in TXSR (log entry 15,
deduced from R92) and the record of results (log entry 17) are the model's choice. -/
def Obligations.SampleUpdatesAndReports : Prop :=
  ∀ (a : Word16) (s : State) (raw m acc' : Nat) (d delta : Int), s.Inv → s.Idle →
    raw = s.response.toNat / 2 ^ s.cfg.shift →
    d = ((raw : Int) - s.lastRaw) % (s.cfg.res : Int) →
    delta = (if 2 * d < s.cfg.res then d else d - s.cfg.res) →
    (acc' : Int) = ((s.acc : Int) + delta) % (2 ^ s.cfg.w : Nat) →
    (m : Int) = ((acc' : Int) - s.zeroOffset) % (s.cfg.res : Int) →
    decode (.opw (0b010#3 ++ a)) = .ok (.sample a) ∧
    exec (.sample a) s = .next { s with
      arg := a, rxdata := s.response, rxsr := s.response, txsr := sentOut s.cfg 0x0000#16,
      acc := acc', lastRaw := raw, script := s.script.tail, frames := s.frames + 1,
      trace := s.trace ++ [.frm 0x0000#16 s.response], results := s.results ++ [BitVec.ofNat 16 m] }

/-- R135: the state change and the result bits of SAMPLE; its result is `MECH_CODE` of the new state. The value left in TXSR (log entry 15,
deduced from R92) and the record of results (log entry 17) are the model's choice. -/
def Obligations.MechUpdatesAndReports : Prop :=
  ∀ (a : Word16) (s : State) (raw m acc' : Nat) (d delta : Int), s.Inv → s.Idle →
    raw = s.response.toNat / 2 ^ s.cfg.shift →
    d = ((raw : Int) - s.lastRaw) % (s.cfg.res : Int) →
    delta = (if 2 * d < s.cfg.res then d else d - s.cfg.res) →
    (acc' : Int) = ((s.acc : Int) + delta) % (2 ^ s.cfg.w : Nat) →
    (m : Int) = ((acc' : Int) - s.zeroOffset) % (s.cfg.res : Int) →
    decode (.opw (0b011#3 ++ a)) = .ok (.mech a) ∧
    (∃ t, exec (.mech a) s = .next t ∧ exec (.sample a) s = .next t ∧ t.mechCode = m ∧
      t = { s with
        arg := a, rxdata := s.response, rxsr := s.response, txsr := sentOut s.cfg 0x0000#16,
        acc := acc', lastRaw := raw, script := s.script.tail, frames := s.frames + 1,
        trace := s.trace ++ [.frm 0x0000#16 s.response], results := s.results ++ [BitVec.ofNat 16 m] })

/-- R136: the update of SAMPLE, and the electrical code of R133 from the new ACC as the result. The value left in TXSR (log entry 15,
deduced from R92) and the record of results (log entry 17) are the model's choice. -/
def Obligations.ElecUpdatesAndReports : Prop :=
  ∀ (a : Word16) (s : State) (raw m acc' : Nat) (d delta : Int), s.Inv → s.Idle →
    raw = s.response.toNat / 2 ^ s.cfg.shift →
    d = ((raw : Int) - s.lastRaw) % (s.cfg.res : Int) →
    delta = (if 2 * d < s.cfg.res then d else d - s.cfg.res) →
    (acc' : Int) = ((s.acc : Int) + delta) % (2 ^ s.cfg.w : Nat) →
    (m : Int) = ((acc' : Int) - s.zeroOffset) % (s.cfg.res : Int) →
    decode (.opw (0b100#3 ++ a)) = .ok (.elec a) ∧
    exec (.elec a) s = .next { s with
      arg := a, rxdata := s.response, rxsr := s.response, txsr := sentOut s.cfg 0x0000#16,
      acc := acc', lastRaw := raw, script := s.script.tail, frames := s.frames + 1,
      trace := s.trace ++ [.frm 0x0000#16 s.response],
      results := s.results ++ [BitVec.ofNat 16 (m % (s.cfg.res / s.cfg.pp) * s.cfg.pp)] }

/-- R140, with the spec's own decision D20 (LAST_RAW is not cleared): the net effect, `MECH_CODE = 0` right after it, and
the result. The value left in TXSR (log entry 15,
deduced from R92) and the record of results (log entry 17) are the model's choice. -/
def Obligations.ZeroTakesTheSampleAsZero : Prop :=
  ∀ (a : Word16) (s : State) (raw z acc' : Nat) (delta : Int), s.Inv → s.Idle →
    raw = s.response.toNat / 2 ^ s.cfg.shift →
    (z : Int) = ((raw : Int) - s.lastRaw) % (s.cfg.res : Int) →
    delta = (if 2 * z < s.cfg.res then (z : Int) else (z : Int) - s.cfg.res) →
    (acc' : Int) = delta % (2 ^ s.cfg.w : Nat) →
    decode (.opw (0b101#3 ++ a)) = .ok (.zero a) ∧
    ∃ t, exec (.zero a) s = .next t ∧ t.mechCode = 0 ∧
      t = { s with
        arg := a, rxdata := s.response, rxsr := s.response, txsr := sentOut s.cfg 0x0000#16,
        acc := acc', lastRaw := raw, zeroOffset := z, zeroed := true, script := s.script.tail, frames := s.frames + 1,
        trace := s.trace ++ [.frm 0x0000#16 s.response], results := s.results ++ [BitVec.ofNat 16 z] }

/-- R76, with the spec's own decision D3: both reserved codes set ILLOP, make no frame and deliver 0. No instruction
clears ILLOP; a reset does (R24: "except by reset"), which ResetEdgeResetsEveryRegister states. R76 says of the step
list that it "changes no other state"; that the acceptance before it latches the operand in ARG, as R26 and R57 say of
every accepted word, is the model's choice (log entry 11), and the record of results is too (log entry 17). -/
def Obligations.ReservedCodesSetIllop : Prop :=
  ∀ (a : Word16) (s : State), s.Inv → s.Idle →
    (decode (.opw (0b110#3 ++ a)) = .ok (.reserved6 a) ∧ decode (.opw (0b111#3 ++ a)) = .ok (.reserved7 a)) ∧
    exec (.reserved6 a) s = .next { s with arg := a, illop := true, results := s.results ++ [0x0000#16] } ∧
    exec (.reserved7 a) s = .next { s with arg := a, illop := true, results := s.results ++ [0x0000#16] } ∧
    ∀ (i : Instr) (t u : State), t.illop = true → exec i t = .next u → u.illop = true

/-- R75, R90: each of the five command words is the frame that carries it. Its response word is captured in RXDATA, and
no tracker register, flag, operand or result is touched. That a command word runs by itself is the model's choice (log
entry 7), and so is the value left in TXSR (log entry 15). -/
def Obligations.CommandWordsAreFrames : Prop :=
  ∀ (i : Instr) (c : Word16) (s : State), s.Inv → s.Idle →
    (i, c) ∈ [(Instr.cmdIoCurrentConfig, 0x47CE#16), (.cmdPolarityZeroLow, 0x452F#16), (.cmdZeroHigh, 0x44FF#16),
      (.cmdZeroPulseWidth, 0x4840#16), (.cmdAngleRead, 0x0000#16)] →
    exec i s = .next { s with
      rxdata := s.response, rxsr := s.response, txsr := sentOut s.cfg c, script := s.script.tail,
      frames := s.frames + 1, trace := s.trace ++ [.frm c s.response] }

/-! ## The tracker -/

/-- R111, with the spec's own decisions D13 and D14: the delta is the shortest signed rotation, exactly half a revolution
counts as `−RES/2`, ACC moves by it modulo `2^W`, LAST_RAW becomes the sample, and nothing else changes. In bits it is the
K-bit difference, sign-extended and added in W bits. -/
def Obligations.UnwrapTakesTheShortestRotation : Prop :=
  ∀ s : State, s.Inv →
    ∃ delta : Int,
      (-(s.cfg.res : Int) ≤ 2 * delta ∧ 2 * delta < s.cfg.res) ∧
      (s.cfg.res : Int) ∣ delta - ((rawOf s.cfg s.rxdata : Int) - s.lastRaw) ∧
      (∀ d : Int, d = ((rawOf s.cfg s.rxdata : Int) - s.lastRaw) % (s.cfg.res : Int) →
        delta = if d < (s.cfg.res : Int) / 2 then d else d - s.cfg.res) ∧
      ((unwrap s).acc : Int) = ((s.acc : Int) + delta) % (2 ^ s.cfg.w : Nat) ∧
      (unwrap s).lastRaw = rawOf s.cfg s.rxdata ∧
      unwrap s = { s with acc := (unwrap s).acc, lastRaw := (unwrap s).lastRaw } ∧
      (unwrap s).acc =
        (BitVec.ofNat s.cfg.w s.acc +
          (BitVec.ofNat s.cfg.k (rawOf s.cfg s.rxdata) - BitVec.ofNat s.cfg.k s.lastRaw).signExtend s.cfg.w).toNat

/-- R110 (decision D11): the raw sample is the response word's high K bits; it is always in range, for every word; the low
bits do not enter it. With the defaults `0x0C85` gives 200. -/
def Obligations.RawSampleIsTheHighBits : Prop :=
  (∀ (c : Config) (r : Word16), c.Valid →
    rawOf c r < c.res ∧ rawOf c r = (r.extractLsb' c.shift c.k).toNat) ∧ rawOf Config.standard 0x0C85#16 = 200

/-- R112 (decision D15): the reduced sample is the non-negative remainder of the signed difference; in bits it is the low K
bits of the W-bit difference; reading ACC as unsigned gives the same. -/
def Obligations.ReductionIsTheLowBits : Prop :=
  ∀ s : State, s.Inv →
    s.mechCode < s.cfg.res ∧
    (s.mechCode : Int) = ((BitVec.ofNat s.cfg.w s.acc).toInt - s.zeroOffset) % (s.cfg.res : Int) ∧
    s.mechCode = ((BitVec.ofNat s.cfg.w s.acc - BitVec.ofNat s.cfg.w s.zeroOffset).setWidth s.cfg.k).toNat ∧
    (s.mechCode : Int) = ((s.acc : Int) - s.zeroOffset) % (s.cfg.res : Int)

/-- R114: the update leaves `OFS = (signed(ACC) − LAST_RAW) mod RES` unchanged, and the reduced sample after it is
`(raw + OFS − ZERO_OFFSET) mod RES`. -/
def Obligations.UnwrapKeepsTheOffset : Prop :=
  ∀ (s : State) (ofs : Int), s.Inv → ofs = (signedOf s.cfg.w s.acc - s.lastRaw) % (s.cfg.res : Int) →
    (signedOf s.cfg.w (unwrap s).acc - (unwrap s).lastRaw) % (s.cfg.res : Int) = ofs ∧
    ((unwrap s).mechCode : Int) = ((rawOf s.cfg s.rxdata : Int) + ofs - s.zeroOffset) % (s.cfg.res : Int)

/-- R115: as long as no ZERO has run the mechanical code is the last raw sample. Stated from every state with the three
tracker values in the relation reset leaves them in, over every run of instructions without ZERO. -/
def Obligations.UncalibratedBlockReportsTheRawSample : Prop :=
  ∀ (is : List Instr) (s : State), s.Inv → s.Idle → s.zeroOffset = 0 → s.acc % s.cfg.res = s.lastRaw →
    (∀ i ∈ is, isZero i = false) →
      ∃ t, runInstrs is s = .next t ∧ t.zeroOffset = 0 ∧ t.mechCode = t.lastRaw

/-- R141: after a ZERO whose sample was `rawC`, over every run of instructions without another ZERO, the mechanical code is
`(LAST_RAW − rawC) mod RES`, so it is 0 exactly at the calibration sample. -/
def Obligations.EffectiveZeroHoldsUntilTheNextZero : Prop :=
  ∀ (a : Word16) (is : List Instr) (s : State) (rawC : Nat), s.Inv → s.Idle →
    rawC = rawOf s.cfg s.response → (∀ i ∈ is, isZero i = false) →
      ∃ t, runInstrs (.zero a :: is) s = .next t ∧
        (t.mechCode : Int) = ((t.lastRaw : Int) - rawC) % (s.cfg.res : Int) ∧ (t.mechCode = 0 ↔ t.lastRaw = rawC)

/-- R140 corner case (b), C5: a second ZERO with the rotor at rest stores the zero offset 0, and the position read as zero
is the same. -/
def Obligations.SecondZeroAtRestStoresZero : Prop :=
  ∀ (a b : Word16) (s t : State), s.Inv → s.Idle → exec (.zero a) s = .next t →
    rawOf s.cfg t.response = rawOf s.cfg s.response →
      ∃ u, exec (.zero b) t = .next u ∧ u.zeroOffset = 0 ∧ u.mechCode = 0 ∧ t.mechCode = 0 ∧ u.lastRaw = t.lastRaw

/-- R116: if the shaft moves less than half a revolution between updates, and the total stays within the accumulator's
range, then `signed(ACC)` moves by exactly the true movement. `ps` pairs each position with the response word that shows
it. -/
def Obligations.AccumulatorTracksTheShaft : Prop :=
  ∀ (ps : List (Int × Word16)) (p0 : Int) (s : State), s.Inv →
    (s.lastRaw : Int) = p0 % (s.cfg.res : Int) →
    (∀ pr ∈ ps, (rawOf s.cfg pr.2 : Int) = pr.1 % (s.cfg.res : Int)) →
    List.IsChain (fun p q : Int => 2 * |q - p| < (s.cfg.res : Int)) (p0 :: ps.map Prod.fst) →
    -(2 ^ s.cfg.w : Int) ≤ 2 * (signedOf s.cfg.w s.acc + ((ps.map Prod.fst).getLast?.getD p0 - p0)) →
    2 * (signedOf s.cfg.w s.acc + ((ps.map Prod.fst).getLast?.getD p0 - p0)) < (2 ^ s.cfg.w : Int) →
      signedOf s.cfg.w (samples (ps.map Prod.snd) s).acc =
        signedOf s.cfg.w s.acc + ((ps.map Prod.fst).getLast?.getD p0 - p0)

/-- R119: however far the shaft moves, ACC is off the true movement by a whole number of revolutions at most, and the
mechanical code follows the shaft. -/
def Obligations.AliasingKeepsTheCodes : Prop :=
  ∀ (s : State) (p q : Int), s.Inv →
    (s.lastRaw : Int) = p % (s.cfg.res : Int) → (rawOf s.cfg s.rxdata : Int) = q % (s.cfg.res : Int) →
      (s.cfg.res : Int) ∣ (signedOf s.cfg.w (unwrap s).acc - signedOf s.cfg.w s.acc) - (q - p) ∧
      ((unwrap s).mechCode : Int) = ((s.mechCode : Int) + (q - p)) % (s.cfg.res : Int)

/-- R118: the reference form of the update, `ACC + raw − LAST_RAW` without modular correction, run over any sequence of
samples beside the block's own. It telescopes to `ACC_0 + raw_n − LAST_RAW_0`; it keeps the same LAST_RAW; the mechanical
and the electrical code are the same after every sequence; and ACC itself is not, as in the spec's table (4090, then
raw 5: 4101 against 5). -/
def Obligations.ReferenceFormGivesTheSameCode : Prop :=
  (∀ (rs : List Word16) (s : State), s.Inv →
    ((referenceSamples rs s).acc : Int) = ((s.acc : Int) + (samples rs s).lastRaw - s.lastRaw) % (2 ^ s.cfg.w : Nat) ∧
    (referenceSamples rs s).lastRaw = (samples rs s).lastRaw ∧
    (referenceSamples rs s).mechCode = (samples rs s).mechCode ∧
    (referenceSamples rs s).elecCode = (samples rs s).elecCode) ∧
  ∃ s : State, s.Inv ∧ (samples [0x0050#16] s).acc = 4101 ∧ (referenceSamples [0x0050#16] s).acc = 5

/-! ## The converter -/

/-- R131, R134 (decision D16): the angles in radians, as exact reals, lie in `[0, 2π)`. -/
def Obligations.AnglesLieInOneTurn : Prop :=
  ∀ s : State, s.Inv →
    (0 ≤ angleRadians s.cfg s.mechCode ∧ angleRadians s.cfg s.mechCode < 2 * Real.pi) ∧
    (0 ≤ angleRadians s.cfg s.elecCode ∧ angleRadians s.cfg s.elecCode < 2 * Real.pi)

/-- R133: the electrical code is `(MECH_CODE mod CYCLE) × PP`, a multiple of PP, at most `RES − PP`, so it never
overflows. -/
def Obligations.ElectricalCodeIsInRange : Prop :=
  ∀ s : State, s.Inv →
    s.elecCode = (s.mechCode % (s.cfg.res / s.cfg.pp)) * s.cfg.pp ∧
    s.elecCode ≤ (s.cfg.cycle - 1) * s.cfg.pp ∧ (s.cfg.cycle - 1) * s.cfg.pp ≤ s.cfg.res - s.cfg.pp ∧
    s.elecCode < s.cfg.res ∧ s.cfg.pp ∣ s.elecCode

/-- R132 (decision D17): `CYCLE` is the quotient rounded down, at least 1 and at most `RES`, in every legal
configuration. -/
def Obligations.CycleIsAtLeastOne : Prop :=
  ∀ c : Config, c.Valid →
    1 ≤ c.cycle ∧ c.cycle ≤ c.res ∧ c.cycle * c.pp ≤ c.res ∧ c.res < (c.cycle + 1) * c.pp

/-- R137: one electrical cycle on, the electrical code is the same, up to the wrap of the mechanical code; across the wrap
too when PP divides RES; not in general otherwise. -/
def Obligations.ElectricalCodeIsPeriodic : Prop :=
  (∀ s t : State, s.Inv → t.Inv → t.cfg = s.cfg → s.mechCode + s.cfg.cycle < s.cfg.res →
    t.mechCode = s.mechCode + s.cfg.cycle → t.elecCode = s.elecCode) ∧
  (∀ s t : State, s.Inv → t.Inv → t.cfg = s.cfg → s.cfg.pp ∣ s.cfg.res →
    t.mechCode = (s.mechCode + s.cfg.cycle) % s.cfg.res → t.elecCode = s.elecCode) ∧
  (∃ s t : State, s.Inv ∧ t.Inv ∧ t.cfg = s.cfg ∧ s.cfg.res = 4096 ∧ s.cfg.pp = 7 ∧
    t.mechCode = (s.mechCode + s.cfg.cycle) % s.cfg.res ∧ t.elecCode ≠ s.elecCode)

/-! ## Flags, operands, ownership -/

/-- R24 (decision D21): the three flags are sticky, and each is set by its own operation and by nothing else, over one
instruction from an idle block. -/
def Obligations.FlagsAreStickyAndSetByOneOperation : Prop :=
  ∀ (i : Instr) (s : State), s.Inv → s.Idle →
    ∃ t, exec i s = .next t ∧
      (t.configured = true ↔ s.configured = true ∨ ∃ a, i = .config a) ∧
      (t.zeroed = true ↔ s.zeroed = true ∨ ∃ a, i = .zero a) ∧
      (t.illop = true ↔ s.illop = true ∨ (∃ a, i = .reserved6 a) ∨ ∃ a, i = .reserved7 a)

/-- R24: "None of the three is ever cleared except by reset", over one clock edge with any pins and `rst = 0`. -/
def Obligations.ClockNeverClearsAFlag : Prop :=
  ∀ (p : PinIn) (s : State), p.rst = false →
    (s.configured = true → (tick p s).configured = true) ∧ (s.zeroed = true → (tick p s).zeroed = true) ∧
      (s.illop = true → (tick p s).illop = true)

/-- R24: no operation reads the flags. Two states that differ in the flags alone reach states that differ in the flags
alone. -/
def Obligations.FlagsGateNothing : Prop :=
  ∀ (i : Instr) (s : State) (c z o : Bool), s.Inv → s.Idle →
    ∃ t u, exec i s = .next t ∧ exec i { s with configured := c, zeroed := z, illop := o } = .next u ∧
      { u with configured := t.configured, zeroed := t.zeroed, illop := t.illop } = t

/-- R24: `status_o[0] = CONFIGURED`, `[1] = ZEROED`, `[2] = ILLOP`, `[3] = BUSY`, and BUSY is 1 exactly when an operation
runs. -/
def Obligations.StatusPortBits : Prop :=
  ∀ (r : Bool) (s : State),
    (outputs r s).statusO.getLsbD 0 = s.configured ∧ (outputs r s).statusO.getLsbD 1 = s.zeroed ∧
      (outputs r s).statusO.getLsbD 2 = s.illop ∧ ((outputs r s).statusO.getLsbD 3 = true ↔ s.seq.op ≠ .idle)

/-- R73: `op_arg` of every operation but RDREG is ignored. The two runs differ in the register ARG alone, which takes the
operand at acceptance (R26); for the two reserved codes that is the model's choice (log entry 11). -/
def Obligations.OperandIsIgnoredButByRdreg : Prop :=
  ∀ (mk : Word16 → Instr) (a b : Word16) (s : State), s.Inv → s.Idle →
    mk ∈ [Instr.config, Instr.sample, Instr.mech, Instr.elec, Instr.zero, Instr.reserved6, Instr.reserved7] →
      ∃ t, exec (mk a) s = .next t ∧ t.arg = a ∧ exec (mk b) s = .next { t with arg := b }

/-- R78, R110: the low `SHIFT` bits of a response word affect nothing but the copies of the word itself: the tracker and the
result of SAMPLE, MECH, ELEC and ZERO are the same. -/
def Obligations.DiscardedBitsAffectNothing : Prop :=
  ∀ (mk : Word16 → Instr) (a r r' : Word16) (rs : List Word16) (s : State), s.Inv → s.Idle →
    mk ∈ [Instr.sample, Instr.mech, Instr.elec, Instr.zero] → rawOf s.cfg r = rawOf s.cfg r' →
      ∃ t, exec (mk a) { s with script := r :: rs } = .next t ∧
        exec (mk a) { s with script := r' :: rs } =
          .next { t with rxdata := r', rxsr := r', trace := s.trace ++ [.frm 0x0000#16 r'] }

/-- R35: the only instructions that write tracker state are SAMPLE, MECH, ELEC and ZERO, and of these only ZERO writes the
zero offset. -/
def Obligations.OnlyTrackerOperationsWriteTheTracker : Prop :=
  ∀ (i : Instr) (s : State), s.Inv → s.Idle →
    ∃ t, exec i s = .next t ∧
      (writesTracker i = false → t.lastRaw = s.lastRaw ∧ t.acc = s.acc ∧ t.zeroOffset = s.zeroOffset) ∧
      (isZero i = false → t.zeroOffset = s.zeroOffset ∧ t.zeroed = s.zeroed)

/-- R34: no step changes a parameter of the instance. -/
def Obligations.ParametersNeverChange : Prop := ∀ s t : State, step s = .next t → t.cfg = s.cfg

/-! ## The link -/

/-- R50, R99: how many frames each instruction makes and how many response words it consumes, and that the block is idle
after it. The list of response words and the count of frames are the model's own (log entry 8), and that a command word is
an instruction of its own is its choice (log entry 7). -/
def Obligations.FramesAndResponseWordsAreCounted : Prop :=
  ∀ (i : Instr) (s : State), s.Inv → s.Idle →
    ∃ t, exec i s = .next t ∧ t.frames = s.frames + frameCount i ∧ t.script = s.script.drop (frameCount i) ∧ t.Idle

/-- R55: the link trace of a sequence of operations is the concatenation, in acceptance order, of the traces of the
operations; earlier events are never read, changed or reordered. -/
def Obligations.TraceIsTheConcatenation : Prop :=
  ∀ (is js : List Instr) (s : State), s.Inv → s.Idle →
    ∃ t u ti tj, runInstrs is s = .next t ∧ runInstrs (is ++ js) s = .next u ∧
      runInstrs is { s with trace := [] } = .next { t with trace := ti } ∧
      runInstrs js { t with trace := [] } = .next { u with trace := tj } ∧
      t.trace = s.trace ++ ti ∧ u.trace = s.trace ++ ti ++ tj

/-! ## The clock level -/

/-- The step lists of the sequencer are those of R76, R93, R95, R113, R135, R136 and R140, and no operation has a step
beyond its list (R26). -/
def Obligations.StepListsAreTheRules : Prop :=
  ∀ (c : Config) (a : Word16),
    (List.range 12).map (stepAction c a .rdreg) = [some (.frame a), some .finish] ++ List.replicate 10 none ∧
    (List.range 12).map (stepAction c a .config) =
      [some (.delay c.tPwron), some (.frame 0x47CE#16), some (.delay c.tCfg), some (.frame 0x452F#16),
        some (.delay c.tCfg), some (.frame 0x44FF#16), some (.delay c.tCfg), some (.frame 0x4840#16),
        some (.delay c.tCfg), some (.frame 0x0000#16), some .finish, none] ∧
    (∀ op ∈ [OpName.sample, .mech, .elec], (List.range 12).map (stepAction c a op) =
      [some (.frame 0x0000#16), some .update, some .finish] ++ List.replicate 9 none) ∧
    (List.range 12).map (stepAction c a .zero) =
      [some .clear, some (.frame 0x0000#16), some .update, some .finish] ++ List.replicate 8 none ∧
    (List.range 12).map (stepAction c a .ill) = [some .finish] ++ List.replicate 11 none ∧
    (∀ n, stepAction c a .idle n = none) ∧ (∀ op n, 12 ≤ n → stepAction c a op n = none)

/-- R30 (decisions D2, D24): `op_ready` is 1 exactly when the block is idle and `rst = 0`; a word is accepted exactly when it
is presented then; a busy block's edge does not depend on the operation port (R57). Acceptance latches the operand (R26);
that it does so for a reserved code too is the model's choice (log entry 11). -/
def Obligations.HandshakeOfTheOperationPort : Prop :=
  (∀ (r : Bool) (s : State), (outputs r s).opReady = true ↔ s.seq.op = .idle ∧ r = false) ∧
  (∀ (w : OpWord) (d : Bool) (s : State), s.Idle →
    (tick ⟨true, true, w, d⟩ s).seq = ⟨.idle, 0⟩ ∧
      (tick ⟨false, true, w, d⟩ s).seq = ⟨opOfCode (w.extractLsb' 16 3), 0⟩ ∧
      (tick ⟨false, true, w, d⟩ s).arg = w.extractLsb' 0 16 ∧ tick ⟨false, false, w, d⟩ s = s) ∧
  (∀ (v v' d : Bool) (w w' : OpWord) (s : State), ¬ s.Idle → tick ⟨false, v, w, d⟩ s = tick ⟨false, v', w', d⟩ s)

/-- R31 (decisions D2, D5): `res_valid` is 1 exactly in the last step of an operation; the edge that ends that cycle
delivers `res_data` and leaves the block idle and ready; in every other cycle `res_data` is 0 and nothing is
delivered. The list of delivered words is the model's own record (log entry 17). -/
def Obligations.ResultPulseLastsOneCycle : Prop :=
  ∀ (p : PinIn) (s : State), s.Inv → p.rst = false →
    ((outputs false s).resValid = true ↔ s.current = some .finish) ∧
    ((outputs false s).resValid = true →
      (tick p s).results = s.results ++ [(outputs false s).resData] ∧
        (outputs false (tick p s)).resValid = false ∧ (outputs false (tick p s)).opReady = true) ∧
    ((outputs false s).resValid = false →
      (outputs false s).resData = 0x0000#16 ∧ (tick p s).results = s.results)

/-- R32: the observation ports show the registers and the two codes as they are, in every cycle. R33: with `rst = 0` the
link pins show theirs: `cs_n` is CS_N, `sck` is SCK, and `sdo` is `TXSR[15]` while CS_N is 0, and 0 otherwise. -/
def Obligations.ObservationPortsShowTheRegisters : Prop :=
  (∀ (r : Bool) (s : State),
    (outputs r s).accO = s.acc ∧ (outputs r s).lastRawO = s.lastRaw ∧ (outputs r s).zeroOffsetO = s.zeroOffset ∧
      (outputs r s).mechCodeO = s.mechCode ∧ (outputs r s).elecCodeO = s.elecCode ∧
      (outputs r s).rxdataO = s.rxdata ∧ (outputs r s).statusO = s.status) ∧
  ∀ s : State,
    (outputs false s).csN = s.csN ∧ (outputs false s).sck = s.sck ∧
      (outputs false s).sdo = if s.csN then false else s.txsr.getLsbD 15

/-- R28, R97: the edge that enters a delay step, whatever the pins, loads `DLY` with `ceil(T × F_CLK)`, `T` in nanoseconds
and `F_CLK` in hertz; the step then counts it down by one each cycle and changes nothing else; once it shows 0 the step
completes and emits `Dly(T)`. That the load is at the entering edge, and that the trace holds the event only once the step
has completed, is the model's choice (log entry 14, deduced from R28, R97 and R172); so is the cycle in which 0 is shown
(log entry 13, R91). -/
def Obligations.DelayCountsDownToItsEnd : Prop :=
  (∀ (p : PinIn) (s : State) (t : Nat), s.cfg.Timed → (tick p s).seq ≠ s.seq → (tick p s).current = some (.delay t) →
    (tick p s).dly.toNat = ⌈(t : ℚ) * (s.cfg.fClk : ℚ) / 1000000000⌉₊) ∧
  ∀ (s : State) (t : Nat), s.Inv → s.current = some (.delay t) →
    (∀ n, n ≤ s.dly.toNat → clockRun n s = { s with dly := s.dly - BitVec.ofNat 32 n }) ∧
    clockRun (s.dly.toNat + 1) s = advance { s with trace := s.trace ++ [.dly t] }

/-- R92 (decision D7), R51: after `j` periods of the burst `j` bits are left fewer, `j` response bits have come in first bit
first, and the transmit register has moved on by `j` bits (`CPHA = 0`) or `j − 1` (`CPHA = 1`); `sck` is back at `CPOL`,
and nothing else has changed. That DLY counts the half-periods, so that it holds `N_HALF − 1` before and after, is the
model's choice (log entry 12), and so is when the device's bit stands on `sdi` (log entry 23). -/
def Obligations.BurstShiftsBitByBit : Prop :=
  ∀ (s : State) (j : Nat), s.inFrame = true → s.cfg.Timed → s.ph = .shift → s.bitcnt = 16#5 → s.sck = s.cfg.cpol →
    s.dly = halfPeriod s.cfg → 1 ≤ j → j ≤ 16 →
      clockRun (2 * s.cfg.nHalf * j) s = { s with
        bitcnt := BitVec.ofNat 5 (16 - j), rxsr := (s.rxsr <<< j) ||| (s.response >>> (16 - j)),
        txsr := s.txsr <<< (if s.cfg.cpha then j - 1 else j) }

/-- R90, R91, R92: a frame step at pin level, from the opening of the window to the end of the gap, is the word-level
exchange, in the number of cycles the phases take: `2 N_CS + 32 N_HALF + N_IDLE` with `N_CS = ceil(T_CS × F_CLK)`, and five
cycles more. The five are the model's choice where R91 leaves extra cycles open (log entry 13), and so are the value left
in TXSR (log entry 15), when the trace takes the event and the device's bit stands on `sdi` (log entries 14 and 23), and
DLY in the burst (log entry 12). -/
def Obligations.FrameAtPinLevelIsTheExchange : Prop :=
  ∀ (s : State) (cmd : Word16), s.Inv → s.cfg.Timed → s.current = some (.frame cmd) → s.ph = .idle →
    clockRun (2 * ⌈(s.cfg.tCs : ℚ) * (s.cfg.fClk : ℚ) / 1000000000⌉₊ + 32 * s.cfg.nHalf + s.cfg.nIdle + 5) s =
      advance (exchange cmd s)

/-- R99: the clock-level model agrees with the transaction-level one. From any idle state with an operation word presented,
the clock reaches, after some number of cycles and for the first time idle again, exactly the state the one-transition view
gives. What the two views agree on where the spec gives no value is the model's choice: TXSR after a frame (log entry 15)
and the device's bit on `sdi` (log entry 23). -/
def Obligations.ClockAgreesWithTheTransaction : Prop :=
  ∀ (s : State) (w : OpWord) (rest : List Input), s.Inv → s.Idle → s.inputs = .word (.opw w) :: rest →
    ∃ n, step s = .next (clockRun (n + 1) s) ∧ (clockRun (n + 1) s).Idle ∧
      ∀ k, k < n → ¬ (clockRun (k + 1) s).Idle

/-- R30, R57, R26: an operation word presented for the clock level is accepted by one rising edge: the step after which the
sequencer is at step 0 of its operation with the operand latched, and the request is withdrawn. That a word can be presented
so is the model's choice (log entry 5), and so is ARG of a reserved code (log entry 11). -/
def Obligations.AcceptingEdgeIsOneStep : Prop :=
  ∀ (s : State) (w : OpWord) (rest : List Input), s.Inv → s.cfg.Timed → s.Idle → s.inputs = .edge w :: rest →
    ∃ t, step s = .next t ∧ t.seq = ⟨opOfCode (w.extractLsb' 16 3), 0⟩ ∧ t.arg = w.extractLsb' 0 16 ∧ t.inputs = rest ∧
      (outputs false t).opReady = false ∧ t.acc = s.acc ∧ t.lastRaw = s.lastRaw ∧ t.zeroOffset = s.zeroOffset ∧
      t.rxdata = s.rxdata ∧ t.trace = s.trace ∧ t.results = s.results

/-- R99, as runs of the machine: the operation accepted at one edge and run cycle by cycle, `k` of the cycles given as
entries in which nothing is presented, ends after some number of steps exactly where the one step that runs it whole ends,
with those entries left over that came after it was done. That a run can be taken so is the model's choice (log entries 5
and 18). -/
def Obligations.CycleByCycleRunEndsWhereOneStepEnds : Prop :=
  ∀ (s : State) (w : OpWord) (k : Nat) (rest : List Input), s.Inv → s.cfg.Timed → s.Idle →
    s.inputs = .edge w :: (List.replicate k .pass ++ rest) →
    (∀ more, rest ≠ .rst :: more) → (∀ more, rest ≠ .pass :: more) →
      ∃ t n j, step { s with inputs := .word (.opw w) :: rest } = .next t ∧ t.Idle ∧ j ≤ k ∧
        Sys2Proof.core.run n s = .next ({ t with inputs := List.replicate j .pass ++ rest } : State)

/-- R188: from every state of the invariant the clock reaches idle: every operation ends, whatever the device answers. -/
def Obligations.EveryOperationEnds : Prop := ∀ s : State, s.Inv → ∃ n, (clockRun n s).Idle

/-! ## Invariants -/

/-- The invariant holds at reset, for every legal configuration (R39). -/
def Obligations.ResetMeetsTheInvariant : Prop :=
  State.reset.Inv ∧ ∀ c : Config, c.Valid → (State.resetOf c).Inv

/-- R21 to R23, R26, R27: every step keeps the invariant: the tracker registers stay within their widths, the sequencer
stays on a step of its list, and the frame engine's registers are what the phase says. -/
def Obligations.EveryStepKeepsTheInvariant : Prop := ∀ s t : State, s.Inv → step s = .next t → t.Inv

/-- The same for one rising edge of `clk` with any pins. -/
def Obligations.EveryClockEdgeKeepsTheInvariant : Prop := ∀ (p : PinIn) (s : State), s.Inv → (tick p s).Inv

/-! ## The host's side -/

/-- R142, R80, R94: of the host procedure CALIBRATE the block sees one operation word, ZERO, and the other three states are
the host's; WRREG is RDREG. -/
def Obligations.CalibrateShowsTheBlockOnlyZero : Prop :=
  (∀ c : Config, calibrate c = [.applyField, .settle c.tSettle, .request (.opw 0x50000#19), .release] ∧
    blockInputs (calibrate c) = [.word (.opw 0x50000#19)]) ∧
  ∀ cmd : Word16, encode (wrreg cmd) = .opw (0b000#3 ++ cmd)
end

