-- ==== Sys2Proof/Laws/Arith.lean ====
section
/-! SUPPORT. The arithmetic of 00_scope.md rule R11 and of the parameters: what `modulo`, `wrapTo`, `signedOf`,
`rawOf` and `shortestDelta` answer, once. -/

namespace Sys2Proof.Machine

theorem modulo_cast (a : Int) {m : Nat} (h : 0 < m) : (modulo a m : Int) = a % (m : Int) := by
  have : 0 ≤ a % (m : Int) := Int.emod_nonneg _ (by omega)
  simp [modulo, this]

theorem modulo_lt (a : Int) {m : Nat} (h : 0 < m) : modulo a m < m := by
  have h1 := modulo_cast a h
  have h2 := Int.emod_lt_of_pos a (by exact_mod_cast h : (0 : Int) < m)
  omega

theorem wrapTo_cast (n : Nat) (a : Int) : (wrapTo n a : Int) = a % ((2 ^ n : Nat) : Int) :=
  modulo_cast a (Nat.two_pow_pos n)

theorem wrapTo_lt (n : Nat) (a : Int) : wrapTo n a < 2 ^ n := modulo_lt a (Nat.two_pow_pos n)

/-- The two's-complement reading is the pattern modulo `2^n`. -/
theorem signedOf_emod (n v : Nat) : signedOf n v % ((2 ^ n : Nat) : Int) = (v : Int) % ((2 ^ n : Nat) : Int) := by
  unfold signedOf
  split
  · rfl
  · exact Int.sub_emod_right _ _

theorem res_pos (c : Config) : 0 < c.res := Nat.two_pow_pos c.k

/-- `RES` divides `2^W` in a legal configuration (rule R5). -/
theorem res_dvd_two_pow (c : Config) (h : c.Valid) : c.res ∣ 2 ^ c.w := Nat.pow_dvd_pow 2 h.2.1

/-- In a legal configuration a revolution has an even number of codes. -/
theorem res_even (c : Config) (h : c.Valid) : c.res = 2 * (c.res / 2) := by
  have hk : c.k = (c.k - 1) + 1 := by have := h.1; unfold Config.k; omega
  have : c.res = 2 * 2 ^ (c.k - 1) := by unfold Config.res; rw [hk, Nat.pow_succ]; simp; omega
  omega

/-- Every response word carries a raw sample in range (rule R110). -/
theorem rawOf_lt (c : Config) (h : c.Valid) (r : Word16) : rawOf c r < c.res := by
  have hr : r.toNat < 2 ^ 16 := r.isLt
  have : (2 : Nat) ^ 16 = c.res * 2 ^ c.shift := by
    unfold Config.res Config.k; rw [← Nat.pow_add]; congr 1; have := h.1; omega
  exact (Nat.div_lt_iff_lt_mul (Nat.two_pow_pos _)).2 (by omega)

theorem rawDifference_cast (c : Config) (raw last : Nat) :
    (rawDifference c raw last : Int) = ((raw : Int) - last) % (c.res : Int) := modulo_cast _ (res_pos c)

theorem rawDifference_lt (c : Config) (raw last : Nat) : rawDifference c raw last < c.res := modulo_lt _ (res_pos c)

/-- The delta is congruent to the difference of the samples (rule R111). -/
theorem shortestDelta_dvd (c : Config) (raw last : Nat) :
    (c.res : Int) ∣ shortestDelta c raw last - ((raw : Int) - last) := by
  have h := rawDifference_cast c raw last
  have hd : (c.res : Int) ∣ ((raw : Int) - last) - ((raw : Int) - last) % (c.res : Int) := Int.dvd_self_sub_emod
  unfold shortestDelta
  rw [h]
  split <;> obtain ⟨q, hq⟩ := hd
  · exact ⟨-q, by linarith⟩
  · exact ⟨-q - 1, by linarith⟩

/-- The delta lies in `[−RES/2, RES/2)` (rule R111). -/
theorem shortestDelta_range (c : Config) (h : c.Valid) (raw last : Nat) :
    -(c.res : Int) ≤ 2 * shortestDelta c raw last ∧ 2 * shortestDelta c raw last < c.res := by
  have h1 := rawDifference_lt c raw last
  have h2 := res_even c h
  unfold shortestDelta
  split <;> omega

/-- The reduced sample is in range (rule R112). -/
theorem mechCode_lt (s : State) : s.mechCode < s.cfg.res := modulo_lt _ (res_pos _)

theorem mechCode_cast (s : State) :
    (s.mechCode : Int) = (signedOf s.cfg.w s.acc - (s.zeroOffset : Int)) % (s.cfg.res : Int) :=
  modulo_cast _ (res_pos _)

end Sys2Proof.Machine
end

