-- ==== Sys2Proof/Laws/State.lean ====
section
/-! SUPPORT. For each named update of the state, what every field of its result is: one lemma per field, true by
unfolding, for `simp`. -/

namespace Sys2Proof.Machine

/-! ### State.setConfigured -/

@[simp] theorem State.setConfigured_cfg (s : State) : s.setConfigured.cfg = s.cfg := rfl
@[simp] theorem State.setConfigured_lastRaw (s : State) : s.setConfigured.lastRaw = s.lastRaw := rfl
@[simp] theorem State.setConfigured_acc (s : State) : s.setConfigured.acc = s.acc := rfl
@[simp] theorem State.setConfigured_zeroOffset (s : State) : s.setConfigured.zeroOffset = s.zeroOffset := rfl
@[simp] theorem State.setConfigured_configured (s : State) : s.setConfigured.configured = true := rfl
@[simp] theorem State.setConfigured_zeroed (s : State) : s.setConfigured.zeroed = s.zeroed := rfl
@[simp] theorem State.setConfigured_illop (s : State) : s.setConfigured.illop = s.illop := rfl
@[simp] theorem State.setConfigured_rxdata (s : State) : s.setConfigured.rxdata = s.rxdata := rfl
@[simp] theorem State.setConfigured_seq (s : State) : s.setConfigured.seq = s.seq := rfl
@[simp] theorem State.setConfigured_arg (s : State) : s.setConfigured.arg = s.arg := rfl
@[simp] theorem State.setConfigured_csN (s : State) : s.setConfigured.csN = s.csN := rfl
@[simp] theorem State.setConfigured_sck (s : State) : s.setConfigured.sck = s.sck := rfl
@[simp] theorem State.setConfigured_txsr (s : State) : s.setConfigured.txsr = s.txsr := rfl
@[simp] theorem State.setConfigured_rxsr (s : State) : s.setConfigured.rxsr = s.rxsr := rfl
@[simp] theorem State.setConfigured_bitcnt (s : State) : s.setConfigured.bitcnt = s.bitcnt := rfl
@[simp] theorem State.setConfigured_ph (s : State) : s.setConfigured.ph = s.ph := rfl
@[simp] theorem State.setConfigured_dly (s : State) : s.setConfigured.dly = s.dly := rfl
@[simp] theorem State.setConfigured_inputs (s : State) : s.setConfigured.inputs = s.inputs := rfl
@[simp] theorem State.setConfigured_script (s : State) : s.setConfigured.script = s.script := rfl
@[simp] theorem State.setConfigured_frames (s : State) : s.setConfigured.frames = s.frames := rfl
@[simp] theorem State.setConfigured_trace (s : State) : s.setConfigured.trace = s.trace := rfl
@[simp] theorem State.setConfigured_results (s : State) : s.setConfigured.results = s.results := rfl

/-! ### State.setZeroed -/

@[simp] theorem State.setZeroed_cfg (s : State) : s.setZeroed.cfg = s.cfg := rfl
@[simp] theorem State.setZeroed_lastRaw (s : State) : s.setZeroed.lastRaw = s.lastRaw := rfl
@[simp] theorem State.setZeroed_acc (s : State) : s.setZeroed.acc = s.acc := rfl
@[simp] theorem State.setZeroed_zeroOffset (s : State) : s.setZeroed.zeroOffset = s.zeroOffset := rfl
@[simp] theorem State.setZeroed_configured (s : State) : s.setZeroed.configured = s.configured := rfl
@[simp] theorem State.setZeroed_zeroed (s : State) : s.setZeroed.zeroed = true := rfl
@[simp] theorem State.setZeroed_illop (s : State) : s.setZeroed.illop = s.illop := rfl
@[simp] theorem State.setZeroed_rxdata (s : State) : s.setZeroed.rxdata = s.rxdata := rfl
@[simp] theorem State.setZeroed_seq (s : State) : s.setZeroed.seq = s.seq := rfl
@[simp] theorem State.setZeroed_arg (s : State) : s.setZeroed.arg = s.arg := rfl
@[simp] theorem State.setZeroed_csN (s : State) : s.setZeroed.csN = s.csN := rfl
@[simp] theorem State.setZeroed_sck (s : State) : s.setZeroed.sck = s.sck := rfl
@[simp] theorem State.setZeroed_txsr (s : State) : s.setZeroed.txsr = s.txsr := rfl
@[simp] theorem State.setZeroed_rxsr (s : State) : s.setZeroed.rxsr = s.rxsr := rfl
@[simp] theorem State.setZeroed_bitcnt (s : State) : s.setZeroed.bitcnt = s.bitcnt := rfl
@[simp] theorem State.setZeroed_ph (s : State) : s.setZeroed.ph = s.ph := rfl
@[simp] theorem State.setZeroed_dly (s : State) : s.setZeroed.dly = s.dly := rfl
@[simp] theorem State.setZeroed_inputs (s : State) : s.setZeroed.inputs = s.inputs := rfl
@[simp] theorem State.setZeroed_script (s : State) : s.setZeroed.script = s.script := rfl
@[simp] theorem State.setZeroed_frames (s : State) : s.setZeroed.frames = s.frames := rfl
@[simp] theorem State.setZeroed_trace (s : State) : s.setZeroed.trace = s.trace := rfl
@[simp] theorem State.setZeroed_results (s : State) : s.setZeroed.results = s.results := rfl

/-! ### State.setIllop -/

@[simp] theorem State.setIllop_cfg (s : State) : s.setIllop.cfg = s.cfg := rfl
@[simp] theorem State.setIllop_lastRaw (s : State) : s.setIllop.lastRaw = s.lastRaw := rfl
@[simp] theorem State.setIllop_acc (s : State) : s.setIllop.acc = s.acc := rfl
@[simp] theorem State.setIllop_zeroOffset (s : State) : s.setIllop.zeroOffset = s.zeroOffset := rfl
@[simp] theorem State.setIllop_configured (s : State) : s.setIllop.configured = s.configured := rfl
@[simp] theorem State.setIllop_zeroed (s : State) : s.setIllop.zeroed = s.zeroed := rfl
@[simp] theorem State.setIllop_illop (s : State) : s.setIllop.illop = true := rfl
@[simp] theorem State.setIllop_rxdata (s : State) : s.setIllop.rxdata = s.rxdata := rfl
@[simp] theorem State.setIllop_seq (s : State) : s.setIllop.seq = s.seq := rfl
@[simp] theorem State.setIllop_arg (s : State) : s.setIllop.arg = s.arg := rfl
@[simp] theorem State.setIllop_csN (s : State) : s.setIllop.csN = s.csN := rfl
@[simp] theorem State.setIllop_sck (s : State) : s.setIllop.sck = s.sck := rfl
@[simp] theorem State.setIllop_txsr (s : State) : s.setIllop.txsr = s.txsr := rfl
@[simp] theorem State.setIllop_rxsr (s : State) : s.setIllop.rxsr = s.rxsr := rfl
@[simp] theorem State.setIllop_bitcnt (s : State) : s.setIllop.bitcnt = s.bitcnt := rfl
@[simp] theorem State.setIllop_ph (s : State) : s.setIllop.ph = s.ph := rfl
@[simp] theorem State.setIllop_dly (s : State) : s.setIllop.dly = s.dly := rfl
@[simp] theorem State.setIllop_inputs (s : State) : s.setIllop.inputs = s.inputs := rfl
@[simp] theorem State.setIllop_script (s : State) : s.setIllop.script = s.script := rfl
@[simp] theorem State.setIllop_frames (s : State) : s.setIllop.frames = s.frames := rfl
@[simp] theorem State.setIllop_trace (s : State) : s.setIllop.trace = s.trace := rfl
@[simp] theorem State.setIllop_results (s : State) : s.setIllop.results = s.results := rfl

/-! ### State.answered -/

@[simp] theorem State.answered_cfg (s : State) : s.answered.cfg = s.cfg := rfl
@[simp] theorem State.answered_lastRaw (s : State) : s.answered.lastRaw = s.lastRaw := rfl
@[simp] theorem State.answered_acc (s : State) : s.answered.acc = s.acc := rfl
@[simp] theorem State.answered_zeroOffset (s : State) : s.answered.zeroOffset = s.zeroOffset := rfl
@[simp] theorem State.answered_configured (s : State) : s.answered.configured = s.configured := rfl
@[simp] theorem State.answered_zeroed (s : State) : s.answered.zeroed = s.zeroed := rfl
@[simp] theorem State.answered_illop (s : State) : s.answered.illop = s.illop := rfl
@[simp] theorem State.answered_rxdata (s : State) : s.answered.rxdata = s.rxdata := rfl
@[simp] theorem State.answered_seq (s : State) : s.answered.seq = s.seq := rfl
@[simp] theorem State.answered_arg (s : State) : s.answered.arg = s.arg := rfl
@[simp] theorem State.answered_csN (s : State) : s.answered.csN = s.csN := rfl
@[simp] theorem State.answered_sck (s : State) : s.answered.sck = s.sck := rfl
@[simp] theorem State.answered_txsr (s : State) : s.answered.txsr = s.txsr := rfl
@[simp] theorem State.answered_rxsr (s : State) : s.answered.rxsr = s.rxsr := rfl
@[simp] theorem State.answered_bitcnt (s : State) : s.answered.bitcnt = s.bitcnt := rfl
@[simp] theorem State.answered_ph (s : State) : s.answered.ph = s.ph := rfl
@[simp] theorem State.answered_dly (s : State) : s.answered.dly = s.dly := rfl
@[simp] theorem State.answered_inputs (s : State) : s.answered.inputs = s.inputs := rfl
@[simp] theorem State.answered_script (s : State) : s.answered.script = s.script.tail := rfl
@[simp] theorem State.answered_frames (s : State) : s.answered.frames = s.frames + 1 := rfl
@[simp] theorem State.answered_trace (s : State) : s.answered.trace = s.trace := rfl
@[simp] theorem State.answered_results (s : State) : s.answered.results = s.results := rfl

/-! ### State.dropInput -/

@[simp] theorem State.dropInput_cfg (s : State) : s.dropInput.cfg = s.cfg := rfl
@[simp] theorem State.dropInput_lastRaw (s : State) : s.dropInput.lastRaw = s.lastRaw := rfl
@[simp] theorem State.dropInput_acc (s : State) : s.dropInput.acc = s.acc := rfl
@[simp] theorem State.dropInput_zeroOffset (s : State) : s.dropInput.zeroOffset = s.zeroOffset := rfl
@[simp] theorem State.dropInput_configured (s : State) : s.dropInput.configured = s.configured := rfl
@[simp] theorem State.dropInput_zeroed (s : State) : s.dropInput.zeroed = s.zeroed := rfl
@[simp] theorem State.dropInput_illop (s : State) : s.dropInput.illop = s.illop := rfl
@[simp] theorem State.dropInput_rxdata (s : State) : s.dropInput.rxdata = s.rxdata := rfl
@[simp] theorem State.dropInput_seq (s : State) : s.dropInput.seq = s.seq := rfl
@[simp] theorem State.dropInput_arg (s : State) : s.dropInput.arg = s.arg := rfl
@[simp] theorem State.dropInput_csN (s : State) : s.dropInput.csN = s.csN := rfl
@[simp] theorem State.dropInput_sck (s : State) : s.dropInput.sck = s.sck := rfl
@[simp] theorem State.dropInput_txsr (s : State) : s.dropInput.txsr = s.txsr := rfl
@[simp] theorem State.dropInput_rxsr (s : State) : s.dropInput.rxsr = s.rxsr := rfl
@[simp] theorem State.dropInput_bitcnt (s : State) : s.dropInput.bitcnt = s.bitcnt := rfl
@[simp] theorem State.dropInput_ph (s : State) : s.dropInput.ph = s.ph := rfl
@[simp] theorem State.dropInput_dly (s : State) : s.dropInput.dly = s.dly := rfl
@[simp] theorem State.dropInput_inputs (s : State) : s.dropInput.inputs = s.inputs.tail := rfl
@[simp] theorem State.dropInput_script (s : State) : s.dropInput.script = s.script := rfl
@[simp] theorem State.dropInput_frames (s : State) : s.dropInput.frames = s.frames := rfl
@[simp] theorem State.dropInput_trace (s : State) : s.dropInput.trace = s.trace := rfl
@[simp] theorem State.dropInput_results (s : State) : s.dropInput.results = s.results := rfl

/-! ### exchange -/

@[simp] theorem exchange_cfg (c : Word16) (s : State) : (exchange c s).cfg = s.cfg := rfl
@[simp] theorem exchange_lastRaw (c : Word16) (s : State) : (exchange c s).lastRaw = s.lastRaw := rfl
@[simp] theorem exchange_acc (c : Word16) (s : State) : (exchange c s).acc = s.acc := rfl
@[simp] theorem exchange_zeroOffset (c : Word16) (s : State) : (exchange c s).zeroOffset = s.zeroOffset := rfl
@[simp] theorem exchange_configured (c : Word16) (s : State) : (exchange c s).configured = s.configured := rfl
@[simp] theorem exchange_zeroed (c : Word16) (s : State) : (exchange c s).zeroed = s.zeroed := rfl
@[simp] theorem exchange_illop (c : Word16) (s : State) : (exchange c s).illop = s.illop := rfl
@[simp] theorem exchange_rxdata (c : Word16) (s : State) : (exchange c s).rxdata = s.response := rfl
@[simp] theorem exchange_seq (c : Word16) (s : State) : (exchange c s).seq = s.seq := rfl
@[simp] theorem exchange_arg (c : Word16) (s : State) : (exchange c s).arg = s.arg := rfl
@[simp] theorem exchange_csN (c : Word16) (s : State) : (exchange c s).csN = true := rfl
@[simp] theorem exchange_sck (c : Word16) (s : State) : (exchange c s).sck = s.cfg.cpol := rfl
@[simp] theorem exchange_txsr (c : Word16) (s : State) : (exchange c s).txsr = sentOut s.cfg c := rfl
@[simp] theorem exchange_rxsr (c : Word16) (s : State) : (exchange c s).rxsr = s.response := rfl
@[simp] theorem exchange_bitcnt (c : Word16) (s : State) : (exchange c s).bitcnt = 0#5 := rfl
@[simp] theorem exchange_ph (c : Word16) (s : State) : (exchange c s).ph = .idle := rfl
@[simp] theorem exchange_dly (c : Word16) (s : State) : (exchange c s).dly = 0#32 := rfl
@[simp] theorem exchange_inputs (c : Word16) (s : State) : (exchange c s).inputs = s.inputs := rfl
@[simp] theorem exchange_script (c : Word16) (s : State) : (exchange c s).script = s.script.tail := rfl
@[simp] theorem exchange_frames (c : Word16) (s : State) : (exchange c s).frames = s.frames + 1 := rfl
@[simp] theorem exchange_trace (c : Word16) (s : State) : (exchange c s).trace = s.trace ++ [.frm c s.response] := rfl
@[simp] theorem exchange_results (c : Word16) (s : State) : (exchange c s).results = s.results := rfl

/-! ### pause -/

@[simp] theorem pause_cfg (t : Nat) (s : State) : (pause t s).cfg = s.cfg := rfl
@[simp] theorem pause_lastRaw (t : Nat) (s : State) : (pause t s).lastRaw = s.lastRaw := rfl
@[simp] theorem pause_acc (t : Nat) (s : State) : (pause t s).acc = s.acc := rfl
@[simp] theorem pause_zeroOffset (t : Nat) (s : State) : (pause t s).zeroOffset = s.zeroOffset := rfl
@[simp] theorem pause_configured (t : Nat) (s : State) : (pause t s).configured = s.configured := rfl
@[simp] theorem pause_zeroed (t : Nat) (s : State) : (pause t s).zeroed = s.zeroed := rfl
@[simp] theorem pause_illop (t : Nat) (s : State) : (pause t s).illop = s.illop := rfl
@[simp] theorem pause_rxdata (t : Nat) (s : State) : (pause t s).rxdata = s.rxdata := rfl
@[simp] theorem pause_seq (t : Nat) (s : State) : (pause t s).seq = s.seq := rfl
@[simp] theorem pause_arg (t : Nat) (s : State) : (pause t s).arg = s.arg := rfl
@[simp] theorem pause_csN (t : Nat) (s : State) : (pause t s).csN = s.csN := rfl
@[simp] theorem pause_sck (t : Nat) (s : State) : (pause t s).sck = s.sck := rfl
@[simp] theorem pause_txsr (t : Nat) (s : State) : (pause t s).txsr = s.txsr := rfl
@[simp] theorem pause_rxsr (t : Nat) (s : State) : (pause t s).rxsr = s.rxsr := rfl
@[simp] theorem pause_bitcnt (t : Nat) (s : State) : (pause t s).bitcnt = s.bitcnt := rfl
@[simp] theorem pause_ph (t : Nat) (s : State) : (pause t s).ph = s.ph := rfl
@[simp] theorem pause_dly (t : Nat) (s : State) : (pause t s).dly = 0#32 := rfl
@[simp] theorem pause_inputs (t : Nat) (s : State) : (pause t s).inputs = s.inputs := rfl
@[simp] theorem pause_script (t : Nat) (s : State) : (pause t s).script = s.script := rfl
@[simp] theorem pause_frames (t : Nat) (s : State) : (pause t s).frames = s.frames := rfl
@[simp] theorem pause_trace (t : Nat) (s : State) : (pause t s).trace = s.trace ++ [.dly t] := rfl
@[simp] theorem pause_results (t : Nat) (s : State) : (pause t s).results = s.results := rfl

/-! ### unwrap -/

@[simp] theorem unwrap_cfg (s : State) : (unwrap s).cfg = s.cfg := rfl
@[simp] theorem unwrap_lastRaw (s : State) : (unwrap s).lastRaw = rawOf s.cfg s.rxdata := rfl
@[simp] theorem unwrap_acc (s : State) : (unwrap s).acc = wrapTo s.cfg.w ((s.acc : Int) + shortestDelta s.cfg (rawOf s.cfg s.rxdata) s.lastRaw) := rfl
@[simp] theorem unwrap_zeroOffset (s : State) : (unwrap s).zeroOffset = s.zeroOffset := rfl
@[simp] theorem unwrap_configured (s : State) : (unwrap s).configured = s.configured := rfl
@[simp] theorem unwrap_zeroed (s : State) : (unwrap s).zeroed = s.zeroed := rfl
@[simp] theorem unwrap_illop (s : State) : (unwrap s).illop = s.illop := rfl
@[simp] theorem unwrap_rxdata (s : State) : (unwrap s).rxdata = s.rxdata := rfl
@[simp] theorem unwrap_seq (s : State) : (unwrap s).seq = s.seq := rfl
@[simp] theorem unwrap_arg (s : State) : (unwrap s).arg = s.arg := rfl
@[simp] theorem unwrap_csN (s : State) : (unwrap s).csN = s.csN := rfl
@[simp] theorem unwrap_sck (s : State) : (unwrap s).sck = s.sck := rfl
@[simp] theorem unwrap_txsr (s : State) : (unwrap s).txsr = s.txsr := rfl
@[simp] theorem unwrap_rxsr (s : State) : (unwrap s).rxsr = s.rxsr := rfl
@[simp] theorem unwrap_bitcnt (s : State) : (unwrap s).bitcnt = s.bitcnt := rfl
@[simp] theorem unwrap_ph (s : State) : (unwrap s).ph = s.ph := rfl
@[simp] theorem unwrap_dly (s : State) : (unwrap s).dly = s.dly := rfl
@[simp] theorem unwrap_inputs (s : State) : (unwrap s).inputs = s.inputs := rfl
@[simp] theorem unwrap_script (s : State) : (unwrap s).script = s.script := rfl
@[simp] theorem unwrap_frames (s : State) : (unwrap s).frames = s.frames := rfl
@[simp] theorem unwrap_trace (s : State) : (unwrap s).trace = s.trace := rfl
@[simp] theorem unwrap_results (s : State) : (unwrap s).results = s.results := rfl

/-! ### referenceUnwrap -/

@[simp] theorem referenceUnwrap_cfg (s : State) : (referenceUnwrap s).cfg = s.cfg := rfl
@[simp] theorem referenceUnwrap_lastRaw (s : State) : (referenceUnwrap s).lastRaw = rawOf s.cfg s.rxdata := rfl
@[simp] theorem referenceUnwrap_acc (s : State) : (referenceUnwrap s).acc = wrapTo s.cfg.w ((s.acc : Int) + (rawOf s.cfg s.rxdata : Int) - (s.lastRaw : Int)) := rfl
@[simp] theorem referenceUnwrap_zeroOffset (s : State) : (referenceUnwrap s).zeroOffset = s.zeroOffset := rfl
@[simp] theorem referenceUnwrap_configured (s : State) : (referenceUnwrap s).configured = s.configured := rfl
@[simp] theorem referenceUnwrap_zeroed (s : State) : (referenceUnwrap s).zeroed = s.zeroed := rfl
@[simp] theorem referenceUnwrap_illop (s : State) : (referenceUnwrap s).illop = s.illop := rfl
@[simp] theorem referenceUnwrap_rxdata (s : State) : (referenceUnwrap s).rxdata = s.rxdata := rfl
@[simp] theorem referenceUnwrap_seq (s : State) : (referenceUnwrap s).seq = s.seq := rfl
@[simp] theorem referenceUnwrap_arg (s : State) : (referenceUnwrap s).arg = s.arg := rfl
@[simp] theorem referenceUnwrap_csN (s : State) : (referenceUnwrap s).csN = s.csN := rfl
@[simp] theorem referenceUnwrap_sck (s : State) : (referenceUnwrap s).sck = s.sck := rfl
@[simp] theorem referenceUnwrap_txsr (s : State) : (referenceUnwrap s).txsr = s.txsr := rfl
@[simp] theorem referenceUnwrap_rxsr (s : State) : (referenceUnwrap s).rxsr = s.rxsr := rfl
@[simp] theorem referenceUnwrap_bitcnt (s : State) : (referenceUnwrap s).bitcnt = s.bitcnt := rfl
@[simp] theorem referenceUnwrap_ph (s : State) : (referenceUnwrap s).ph = s.ph := rfl
@[simp] theorem referenceUnwrap_dly (s : State) : (referenceUnwrap s).dly = s.dly := rfl
@[simp] theorem referenceUnwrap_inputs (s : State) : (referenceUnwrap s).inputs = s.inputs := rfl
@[simp] theorem referenceUnwrap_script (s : State) : (referenceUnwrap s).script = s.script := rfl
@[simp] theorem referenceUnwrap_frames (s : State) : (referenceUnwrap s).frames = s.frames := rfl
@[simp] theorem referenceUnwrap_trace (s : State) : (referenceUnwrap s).trace = s.trace := rfl
@[simp] theorem referenceUnwrap_results (s : State) : (referenceUnwrap s).results = s.results := rfl

/-! ### clearTracker -/

@[simp] theorem clearTracker_cfg (s : State) : (clearTracker s).cfg = s.cfg := rfl
@[simp] theorem clearTracker_lastRaw (s : State) : (clearTracker s).lastRaw = s.lastRaw := rfl
@[simp] theorem clearTracker_acc (s : State) : (clearTracker s).acc = 0 := rfl
@[simp] theorem clearTracker_zeroOffset (s : State) : (clearTracker s).zeroOffset = 0 := rfl
@[simp] theorem clearTracker_configured (s : State) : (clearTracker s).configured = s.configured := rfl
@[simp] theorem clearTracker_zeroed (s : State) : (clearTracker s).zeroed = s.zeroed := rfl
@[simp] theorem clearTracker_illop (s : State) : (clearTracker s).illop = s.illop := rfl
@[simp] theorem clearTracker_rxdata (s : State) : (clearTracker s).rxdata = s.rxdata := rfl
@[simp] theorem clearTracker_seq (s : State) : (clearTracker s).seq = s.seq := rfl
@[simp] theorem clearTracker_arg (s : State) : (clearTracker s).arg = s.arg := rfl
@[simp] theorem clearTracker_csN (s : State) : (clearTracker s).csN = s.csN := rfl
@[simp] theorem clearTracker_sck (s : State) : (clearTracker s).sck = s.sck := rfl
@[simp] theorem clearTracker_txsr (s : State) : (clearTracker s).txsr = s.txsr := rfl
@[simp] theorem clearTracker_rxsr (s : State) : (clearTracker s).rxsr = s.rxsr := rfl
@[simp] theorem clearTracker_bitcnt (s : State) : (clearTracker s).bitcnt = s.bitcnt := rfl
@[simp] theorem clearTracker_ph (s : State) : (clearTracker s).ph = s.ph := rfl
@[simp] theorem clearTracker_dly (s : State) : (clearTracker s).dly = s.dly := rfl
@[simp] theorem clearTracker_inputs (s : State) : (clearTracker s).inputs = s.inputs := rfl
@[simp] theorem clearTracker_script (s : State) : (clearTracker s).script = s.script := rfl
@[simp] theorem clearTracker_frames (s : State) : (clearTracker s).frames = s.frames := rfl
@[simp] theorem clearTracker_trace (s : State) : (clearTracker s).trace = s.trace := rfl
@[simp] theorem clearTracker_results (s : State) : (clearTracker s).results = s.results := rfl

/-! ### storeZero -/

@[simp] theorem storeZero_cfg (s : State) : (storeZero s).cfg = s.cfg := rfl
@[simp] theorem storeZero_lastRaw (s : State) : (storeZero s).lastRaw = s.lastRaw := rfl
@[simp] theorem storeZero_acc (s : State) : (storeZero s).acc = s.acc := rfl
@[simp] theorem storeZero_zeroOffset (s : State) : (storeZero s).zeroOffset = s.mechCode := rfl
@[simp] theorem storeZero_configured (s : State) : (storeZero s).configured = s.configured := rfl
@[simp] theorem storeZero_zeroed (s : State) : (storeZero s).zeroed = true := rfl
@[simp] theorem storeZero_illop (s : State) : (storeZero s).illop = s.illop := rfl
@[simp] theorem storeZero_rxdata (s : State) : (storeZero s).rxdata = s.rxdata := rfl
@[simp] theorem storeZero_seq (s : State) : (storeZero s).seq = s.seq := rfl
@[simp] theorem storeZero_arg (s : State) : (storeZero s).arg = s.arg := rfl
@[simp] theorem storeZero_csN (s : State) : (storeZero s).csN = s.csN := rfl
@[simp] theorem storeZero_sck (s : State) : (storeZero s).sck = s.sck := rfl
@[simp] theorem storeZero_txsr (s : State) : (storeZero s).txsr = s.txsr := rfl
@[simp] theorem storeZero_rxsr (s : State) : (storeZero s).rxsr = s.rxsr := rfl
@[simp] theorem storeZero_bitcnt (s : State) : (storeZero s).bitcnt = s.bitcnt := rfl
@[simp] theorem storeZero_ph (s : State) : (storeZero s).ph = s.ph := rfl
@[simp] theorem storeZero_dly (s : State) : (storeZero s).dly = s.dly := rfl
@[simp] theorem storeZero_inputs (s : State) : (storeZero s).inputs = s.inputs := rfl
@[simp] theorem storeZero_script (s : State) : (storeZero s).script = s.script := rfl
@[simp] theorem storeZero_frames (s : State) : (storeZero s).frames = s.frames := rfl
@[simp] theorem storeZero_trace (s : State) : (storeZero s).trace = s.trace := rfl
@[simp] theorem storeZero_results (s : State) : (storeZero s).results = s.results := rfl

/-! ### latch -/

@[simp] theorem latch_cfg (a : Word16) (s : State) : (latch a s).cfg = s.cfg := rfl
@[simp] theorem latch_lastRaw (a : Word16) (s : State) : (latch a s).lastRaw = s.lastRaw := rfl
@[simp] theorem latch_acc (a : Word16) (s : State) : (latch a s).acc = s.acc := rfl
@[simp] theorem latch_zeroOffset (a : Word16) (s : State) : (latch a s).zeroOffset = s.zeroOffset := rfl
@[simp] theorem latch_configured (a : Word16) (s : State) : (latch a s).configured = s.configured := rfl
@[simp] theorem latch_zeroed (a : Word16) (s : State) : (latch a s).zeroed = s.zeroed := rfl
@[simp] theorem latch_illop (a : Word16) (s : State) : (latch a s).illop = s.illop := rfl
@[simp] theorem latch_rxdata (a : Word16) (s : State) : (latch a s).rxdata = s.rxdata := rfl
@[simp] theorem latch_seq (a : Word16) (s : State) : (latch a s).seq = s.seq := rfl
@[simp] theorem latch_arg (a : Word16) (s : State) : (latch a s).arg = a := rfl
@[simp] theorem latch_csN (a : Word16) (s : State) : (latch a s).csN = s.csN := rfl
@[simp] theorem latch_sck (a : Word16) (s : State) : (latch a s).sck = s.sck := rfl
@[simp] theorem latch_txsr (a : Word16) (s : State) : (latch a s).txsr = s.txsr := rfl
@[simp] theorem latch_rxsr (a : Word16) (s : State) : (latch a s).rxsr = s.rxsr := rfl
@[simp] theorem latch_bitcnt (a : Word16) (s : State) : (latch a s).bitcnt = s.bitcnt := rfl
@[simp] theorem latch_ph (a : Word16) (s : State) : (latch a s).ph = s.ph := rfl
@[simp] theorem latch_dly (a : Word16) (s : State) : (latch a s).dly = s.dly := rfl
@[simp] theorem latch_inputs (a : Word16) (s : State) : (latch a s).inputs = s.inputs := rfl
@[simp] theorem latch_script (a : Word16) (s : State) : (latch a s).script = s.script := rfl
@[simp] theorem latch_frames (a : Word16) (s : State) : (latch a s).frames = s.frames := rfl
@[simp] theorem latch_trace (a : Word16) (s : State) : (latch a s).trace = s.trace := rfl
@[simp] theorem latch_results (a : Word16) (s : State) : (latch a s).results = s.results := rfl

/-! ### deliver -/

@[simp] theorem deliver_cfg (v : Word16) (s : State) : (deliver v s).cfg = s.cfg := rfl
@[simp] theorem deliver_lastRaw (v : Word16) (s : State) : (deliver v s).lastRaw = s.lastRaw := rfl
@[simp] theorem deliver_acc (v : Word16) (s : State) : (deliver v s).acc = s.acc := rfl
@[simp] theorem deliver_zeroOffset (v : Word16) (s : State) : (deliver v s).zeroOffset = s.zeroOffset := rfl
@[simp] theorem deliver_configured (v : Word16) (s : State) : (deliver v s).configured = s.configured := rfl
@[simp] theorem deliver_zeroed (v : Word16) (s : State) : (deliver v s).zeroed = s.zeroed := rfl
@[simp] theorem deliver_illop (v : Word16) (s : State) : (deliver v s).illop = s.illop := rfl
@[simp] theorem deliver_rxdata (v : Word16) (s : State) : (deliver v s).rxdata = s.rxdata := rfl
@[simp] theorem deliver_seq (v : Word16) (s : State) : (deliver v s).seq = ⟨.idle, 0⟩ := rfl
@[simp] theorem deliver_arg (v : Word16) (s : State) : (deliver v s).arg = s.arg := rfl
@[simp] theorem deliver_csN (v : Word16) (s : State) : (deliver v s).csN = s.csN := rfl
@[simp] theorem deliver_sck (v : Word16) (s : State) : (deliver v s).sck = s.sck := rfl
@[simp] theorem deliver_txsr (v : Word16) (s : State) : (deliver v s).txsr = s.txsr := rfl
@[simp] theorem deliver_rxsr (v : Word16) (s : State) : (deliver v s).rxsr = s.rxsr := rfl
@[simp] theorem deliver_bitcnt (v : Word16) (s : State) : (deliver v s).bitcnt = s.bitcnt := rfl
@[simp] theorem deliver_ph (v : Word16) (s : State) : (deliver v s).ph = s.ph := rfl
@[simp] theorem deliver_dly (v : Word16) (s : State) : (deliver v s).dly = s.dly := rfl
@[simp] theorem deliver_inputs (v : Word16) (s : State) : (deliver v s).inputs = s.inputs := rfl
@[simp] theorem deliver_script (v : Word16) (s : State) : (deliver v s).script = s.script := rfl
@[simp] theorem deliver_frames (v : Word16) (s : State) : (deliver v s).frames = s.frames := rfl
@[simp] theorem deliver_trace (v : Word16) (s : State) : (deliver v s).trace = s.trace := rfl
@[simp] theorem deliver_results (v : Word16) (s : State) : (deliver v s).results = s.results ++ [v] := rfl

/-! ### resetEdge -/

@[simp] theorem resetEdge_cfg (s : State) : (resetEdge s).cfg = s.cfg := rfl
@[simp] theorem resetEdge_lastRaw (s : State) : (resetEdge s).lastRaw = 0 := rfl
@[simp] theorem resetEdge_acc (s : State) : (resetEdge s).acc = 0 := rfl
@[simp] theorem resetEdge_zeroOffset (s : State) : (resetEdge s).zeroOffset = 0 := rfl
@[simp] theorem resetEdge_configured (s : State) : (resetEdge s).configured = false := rfl
@[simp] theorem resetEdge_zeroed (s : State) : (resetEdge s).zeroed = false := rfl
@[simp] theorem resetEdge_illop (s : State) : (resetEdge s).illop = false := rfl
@[simp] theorem resetEdge_rxdata (s : State) : (resetEdge s).rxdata = 0x0000#16 := rfl
@[simp] theorem resetEdge_seq (s : State) : (resetEdge s).seq = ⟨.idle, 0⟩ := rfl
@[simp] theorem resetEdge_arg (s : State) : (resetEdge s).arg = 0x0000#16 := rfl
@[simp] theorem resetEdge_csN (s : State) : (resetEdge s).csN = true := rfl
@[simp] theorem resetEdge_sck (s : State) : (resetEdge s).sck = s.cfg.cpol := rfl
@[simp] theorem resetEdge_txsr (s : State) : (resetEdge s).txsr = 0x0000#16 := rfl
@[simp] theorem resetEdge_rxsr (s : State) : (resetEdge s).rxsr = 0x0000#16 := rfl
@[simp] theorem resetEdge_bitcnt (s : State) : (resetEdge s).bitcnt = 0#5 := rfl
@[simp] theorem resetEdge_ph (s : State) : (resetEdge s).ph = .idle := rfl
@[simp] theorem resetEdge_dly (s : State) : (resetEdge s).dly = 0#32 := rfl
@[simp] theorem resetEdge_inputs (s : State) : (resetEdge s).inputs = s.inputs := rfl
@[simp] theorem resetEdge_script (s : State) : (resetEdge s).script = s.script := rfl
@[simp] theorem resetEdge_frames (s : State) : (resetEdge s).frames = s.frames := rfl
@[simp] theorem resetEdge_trace (s : State) : (resetEdge s).trace = s.trace := rfl
@[simp] theorem resetEdge_results (s : State) : (resetEdge s).results = s.results := rfl

/-! ### enterStep -/

@[simp] theorem enterStep_cfg (o : OpName) (n : Nat) (s : State) : (enterStep o n s).cfg = s.cfg := rfl
@[simp] theorem enterStep_lastRaw (o : OpName) (n : Nat) (s : State) : (enterStep o n s).lastRaw = s.lastRaw := rfl
@[simp] theorem enterStep_acc (o : OpName) (n : Nat) (s : State) : (enterStep o n s).acc = s.acc := rfl
@[simp] theorem enterStep_zeroOffset (o : OpName) (n : Nat) (s : State) : (enterStep o n s).zeroOffset = s.zeroOffset := rfl
@[simp] theorem enterStep_configured (o : OpName) (n : Nat) (s : State) : (enterStep o n s).configured = s.configured := rfl
@[simp] theorem enterStep_zeroed (o : OpName) (n : Nat) (s : State) : (enterStep o n s).zeroed = s.zeroed := rfl
@[simp] theorem enterStep_illop (o : OpName) (n : Nat) (s : State) : (enterStep o n s).illop = s.illop := rfl
@[simp] theorem enterStep_rxdata (o : OpName) (n : Nat) (s : State) : (enterStep o n s).rxdata = s.rxdata := rfl
@[simp] theorem enterStep_seq (o : OpName) (n : Nat) (s : State) : (enterStep o n s).seq = ⟨o, n⟩ := rfl
@[simp] theorem enterStep_arg (o : OpName) (n : Nat) (s : State) : (enterStep o n s).arg = s.arg := rfl
@[simp] theorem enterStep_csN (o : OpName) (n : Nat) (s : State) : (enterStep o n s).csN = s.csN := rfl
@[simp] theorem enterStep_sck (o : OpName) (n : Nat) (s : State) : (enterStep o n s).sck = s.sck := rfl
@[simp] theorem enterStep_txsr (o : OpName) (n : Nat) (s : State) : (enterStep o n s).txsr = s.txsr := rfl
@[simp] theorem enterStep_rxsr (o : OpName) (n : Nat) (s : State) : (enterStep o n s).rxsr = s.rxsr := rfl
@[simp] theorem enterStep_bitcnt (o : OpName) (n : Nat) (s : State) : (enterStep o n s).bitcnt = s.bitcnt := rfl
@[simp] theorem enterStep_ph (o : OpName) (n : Nat) (s : State) : (enterStep o n s).ph = s.ph := rfl
@[simp] theorem enterStep_dly (o : OpName) (n : Nat) (s : State) : (enterStep o n s).dly = entryDelay s.cfg (stepAction s.cfg s.arg o n) := rfl
@[simp] theorem enterStep_inputs (o : OpName) (n : Nat) (s : State) : (enterStep o n s).inputs = s.inputs := rfl
@[simp] theorem enterStep_script (o : OpName) (n : Nat) (s : State) : (enterStep o n s).script = s.script := rfl
@[simp] theorem enterStep_frames (o : OpName) (n : Nat) (s : State) : (enterStep o n s).frames = s.frames := rfl
@[simp] theorem enterStep_trace (o : OpName) (n : Nat) (s : State) : (enterStep o n s).trace = s.trace := rfl
@[simp] theorem enterStep_results (o : OpName) (n : Nat) (s : State) : (enterStep o n s).results = s.results := rfl

/-! ### advance -/

@[simp] theorem advance_cfg (s : State) : (advance s).cfg = s.cfg := rfl
@[simp] theorem advance_lastRaw (s : State) : (advance s).lastRaw = s.lastRaw := rfl
@[simp] theorem advance_acc (s : State) : (advance s).acc = s.acc := rfl
@[simp] theorem advance_zeroOffset (s : State) : (advance s).zeroOffset = s.zeroOffset := rfl
@[simp] theorem advance_configured (s : State) : (advance s).configured = s.configured := rfl
@[simp] theorem advance_zeroed (s : State) : (advance s).zeroed = s.zeroed := rfl
@[simp] theorem advance_illop (s : State) : (advance s).illop = s.illop := rfl
@[simp] theorem advance_rxdata (s : State) : (advance s).rxdata = s.rxdata := rfl
@[simp] theorem advance_seq (s : State) : (advance s).seq = ⟨s.seq.op, s.seq.step + 1⟩ := rfl
@[simp] theorem advance_arg (s : State) : (advance s).arg = s.arg := rfl
@[simp] theorem advance_csN (s : State) : (advance s).csN = s.csN := rfl
@[simp] theorem advance_sck (s : State) : (advance s).sck = s.sck := rfl
@[simp] theorem advance_txsr (s : State) : (advance s).txsr = s.txsr := rfl
@[simp] theorem advance_rxsr (s : State) : (advance s).rxsr = s.rxsr := rfl
@[simp] theorem advance_bitcnt (s : State) : (advance s).bitcnt = s.bitcnt := rfl
@[simp] theorem advance_ph (s : State) : (advance s).ph = s.ph := rfl
@[simp] theorem advance_dly (s : State) : (advance s).dly = entryDelay s.cfg (stepAction s.cfg s.arg s.seq.op (s.seq.step + 1)) := rfl
@[simp] theorem advance_inputs (s : State) : (advance s).inputs = s.inputs := rfl
@[simp] theorem advance_script (s : State) : (advance s).script = s.script := rfl
@[simp] theorem advance_frames (s : State) : (advance s).frames = s.frames := rfl
@[simp] theorem advance_trace (s : State) : (advance s).trace = s.trace := rfl
@[simp] theorem advance_results (s : State) : (advance s).results = s.results := rfl

/-! ### countDown -/

@[simp] theorem countDown_cfg (s : State) : (countDown s).cfg = s.cfg := rfl
@[simp] theorem countDown_lastRaw (s : State) : (countDown s).lastRaw = s.lastRaw := rfl
@[simp] theorem countDown_acc (s : State) : (countDown s).acc = s.acc := rfl
@[simp] theorem countDown_zeroOffset (s : State) : (countDown s).zeroOffset = s.zeroOffset := rfl
@[simp] theorem countDown_configured (s : State) : (countDown s).configured = s.configured := rfl
@[simp] theorem countDown_zeroed (s : State) : (countDown s).zeroed = s.zeroed := rfl
@[simp] theorem countDown_illop (s : State) : (countDown s).illop = s.illop := rfl
@[simp] theorem countDown_rxdata (s : State) : (countDown s).rxdata = s.rxdata := rfl
@[simp] theorem countDown_seq (s : State) : (countDown s).seq = s.seq := rfl
@[simp] theorem countDown_arg (s : State) : (countDown s).arg = s.arg := rfl
@[simp] theorem countDown_csN (s : State) : (countDown s).csN = s.csN := rfl
@[simp] theorem countDown_sck (s : State) : (countDown s).sck = s.sck := rfl
@[simp] theorem countDown_txsr (s : State) : (countDown s).txsr = s.txsr := rfl
@[simp] theorem countDown_rxsr (s : State) : (countDown s).rxsr = s.rxsr := rfl
@[simp] theorem countDown_bitcnt (s : State) : (countDown s).bitcnt = s.bitcnt := rfl
@[simp] theorem countDown_ph (s : State) : (countDown s).ph = s.ph := rfl
@[simp] theorem countDown_dly (s : State) : (countDown s).dly = s.dly - 1#32 := rfl
@[simp] theorem countDown_inputs (s : State) : (countDown s).inputs = s.inputs := rfl
@[simp] theorem countDown_script (s : State) : (countDown s).script = s.script := rfl
@[simp] theorem countDown_frames (s : State) : (countDown s).frames = s.frames := rfl
@[simp] theorem countDown_trace (s : State) : (countDown s).trace = s.trace := rfl
@[simp] theorem countDown_results (s : State) : (countDown s).results = s.results := rfl

/-! ### openFrame -/

@[simp] theorem openFrame_cfg (c : Word16) (s : State) : (openFrame c s).cfg = s.cfg := rfl
@[simp] theorem openFrame_lastRaw (c : Word16) (s : State) : (openFrame c s).lastRaw = s.lastRaw := rfl
@[simp] theorem openFrame_acc (c : Word16) (s : State) : (openFrame c s).acc = s.acc := rfl
@[simp] theorem openFrame_zeroOffset (c : Word16) (s : State) : (openFrame c s).zeroOffset = s.zeroOffset := rfl
@[simp] theorem openFrame_configured (c : Word16) (s : State) : (openFrame c s).configured = s.configured := rfl
@[simp] theorem openFrame_zeroed (c : Word16) (s : State) : (openFrame c s).zeroed = s.zeroed := rfl
@[simp] theorem openFrame_illop (c : Word16) (s : State) : (openFrame c s).illop = s.illop := rfl
@[simp] theorem openFrame_rxdata (c : Word16) (s : State) : (openFrame c s).rxdata = s.rxdata := rfl
@[simp] theorem openFrame_seq (c : Word16) (s : State) : (openFrame c s).seq = s.seq := rfl
@[simp] theorem openFrame_arg (c : Word16) (s : State) : (openFrame c s).arg = s.arg := rfl
@[simp] theorem openFrame_csN (c : Word16) (s : State) : (openFrame c s).csN = false := rfl
@[simp] theorem openFrame_sck (c : Word16) (s : State) : (openFrame c s).sck = s.sck := rfl
@[simp] theorem openFrame_txsr (c : Word16) (s : State) : (openFrame c s).txsr = c := rfl
@[simp] theorem openFrame_rxsr (c : Word16) (s : State) : (openFrame c s).rxsr = s.rxsr := rfl
@[simp] theorem openFrame_bitcnt (c : Word16) (s : State) : (openFrame c s).bitcnt = 16#5 := rfl
@[simp] theorem openFrame_ph (c : Word16) (s : State) : (openFrame c s).ph = .setup := rfl
@[simp] theorem openFrame_dly (c : Word16) (s : State) : (openFrame c s).dly = BitVec.ofNat 32 s.cfg.nCs := rfl
@[simp] theorem openFrame_inputs (c : Word16) (s : State) : (openFrame c s).inputs = s.inputs := rfl
@[simp] theorem openFrame_script (c : Word16) (s : State) : (openFrame c s).script = s.script := rfl
@[simp] theorem openFrame_frames (c : Word16) (s : State) : (openFrame c s).frames = s.frames := rfl
@[simp] theorem openFrame_trace (c : Word16) (s : State) : (openFrame c s).trace = s.trace := rfl
@[simp] theorem openFrame_results (c : Word16) (s : State) : (openFrame c s).results = s.results := rfl

/-! ### closeFrame -/

@[simp] theorem closeFrame_cfg (c : Word16) (s : State) : (closeFrame c s).cfg = s.cfg := rfl
@[simp] theorem closeFrame_lastRaw (c : Word16) (s : State) : (closeFrame c s).lastRaw = s.lastRaw := rfl
@[simp] theorem closeFrame_acc (c : Word16) (s : State) : (closeFrame c s).acc = s.acc := rfl
@[simp] theorem closeFrame_zeroOffset (c : Word16) (s : State) : (closeFrame c s).zeroOffset = s.zeroOffset := rfl
@[simp] theorem closeFrame_configured (c : Word16) (s : State) : (closeFrame c s).configured = s.configured := rfl
@[simp] theorem closeFrame_zeroed (c : Word16) (s : State) : (closeFrame c s).zeroed = s.zeroed := rfl
@[simp] theorem closeFrame_illop (c : Word16) (s : State) : (closeFrame c s).illop = s.illop := rfl
@[simp] theorem closeFrame_rxdata (c : Word16) (s : State) : (closeFrame c s).rxdata = s.rxsr := rfl
@[simp] theorem closeFrame_seq (c : Word16) (s : State) : (closeFrame c s).seq = s.seq := rfl
@[simp] theorem closeFrame_arg (c : Word16) (s : State) : (closeFrame c s).arg = s.arg := rfl
@[simp] theorem closeFrame_csN (c : Word16) (s : State) : (closeFrame c s).csN = true := rfl
@[simp] theorem closeFrame_sck (c : Word16) (s : State) : (closeFrame c s).sck = s.sck := rfl
@[simp] theorem closeFrame_txsr (c : Word16) (s : State) : (closeFrame c s).txsr = s.txsr := rfl
@[simp] theorem closeFrame_rxsr (c : Word16) (s : State) : (closeFrame c s).rxsr = s.rxsr := rfl
@[simp] theorem closeFrame_bitcnt (c : Word16) (s : State) : (closeFrame c s).bitcnt = s.bitcnt := rfl
@[simp] theorem closeFrame_ph (c : Word16) (s : State) : (closeFrame c s).ph = .gap := rfl
@[simp] theorem closeFrame_dly (c : Word16) (s : State) : (closeFrame c s).dly = BitVec.ofNat 32 s.cfg.nIdle := rfl
@[simp] theorem closeFrame_inputs (c : Word16) (s : State) : (closeFrame c s).inputs = s.inputs := rfl
@[simp] theorem closeFrame_script (c : Word16) (s : State) : (closeFrame c s).script = s.script := rfl
@[simp] theorem closeFrame_frames (c : Word16) (s : State) : (closeFrame c s).frames = s.frames := rfl
@[simp] theorem closeFrame_trace (c : Word16) (s : State) : (closeFrame c s).trace = s.trace ++ [.frm c s.rxsr] := rfl
@[simp] theorem closeFrame_results (c : Word16) (s : State) : (closeFrame c s).results = s.results := rfl

end Sys2Proof.Machine
end

