-- ==== Sys2Proof/Laws/Ops.lean ====
section
/-! SUPPORT. What the shared operations can do, once each: the handshake, `exec` as one effect behind it, and `step` by
cases. -/

namespace Sys2Proof.Machine

/-- Everything `whenReady` can answer. -/
theorem whenReady_cases (s : State) (f : State → State) :
    (¬ s.cfg.Valid ∧ whenReady s f = .refused .badConfiguration) ∨
    (s.cfg.Valid ∧ s.Idle ∧ whenReady s f = .next (f s)) ∨
    (s.cfg.Valid ∧ ¬ s.Idle ∧ whenReady s f = .next s) := by
  unfold whenReady
  by_cases h : s.cfg.Valid
  · by_cases hi : s.Idle
    · exact .inr (.inl ⟨h, hi, by rw [if_pos h, if_pos hi]⟩)
    · exact .inr (.inr ⟨h, hi, by rw [if_pos h, if_neg hi]⟩)
  · exact .inl ⟨h, if_neg h⟩

theorem whenReady_idle (s : State) (f : State → State) (h : s.cfg.Valid) (hi : s.Idle) :
    whenReady s f = .next (f s) := by rw [whenReady, if_pos h, if_pos hi]

theorem operate_idle (a : Word16) (s : State) (f : State → State) (h : s.cfg.Valid) (hi : s.Idle) :
    operate a s f = .next (f (latch a s)) := whenReady_idle s _ h hi

/-- The effect of an instruction on an idle block, apart from the handshake. -/
def effectOf : Instr → State → State
  | .rdreg a, s => deliver (exchange a (latch a s)).rxdata (exchange a (latch a s))
  | .config a, s =>
    deliver 0x0000#16 (exchange wordAngleRead (configWrite wordZeroPulseWidth (configWrite wordZeroHigh
      (configWrite wordPolarityZeroLow (configWrite wordIoCurrentConfig (pause s.cfg.tPwron (latch a s))))))).setConfigured
  | .sample a, s => deliver (zext16 (takeSample (latch a s)).mechCode) (takeSample (latch a s))
  | .mech a, s => deliver (zext16 (takeSample (latch a s)).mechCode) (takeSample (latch a s))
  | .elec a, s => deliver (zext16 (takeSample (latch a s)).elecCode) (takeSample (latch a s))
  | .zero a, s =>
    deliver (zext16 (takeSample (clearTracker (latch a s))).mechCode) (storeZero (takeSample (clearTracker (latch a s))))
  | .reserved6 a, s => recordIllegal (latch a s)
  | .reserved7 a, s => recordIllegal (latch a s)
  | .cmdIoCurrentConfig, s => exchange wordIoCurrentConfig s
  | .cmdPolarityZeroLow, s => exchange wordPolarityZeroLow s
  | .cmdZeroHigh, s => exchange wordZeroHigh s
  | .cmdZeroPulseWidth, s => exchange wordZeroPulseWidth s
  | .cmdAngleRead, s => exchange wordAngleRead s

/-- Every instruction is its effect behind the one handshake. -/
theorem exec_eq_whenReady (i : Instr) (s : State) : exec i s = whenReady s (effectOf i) := by cases i <;> rfl

/-- Everything `step` can do. -/
theorem step_cases (s : State) :
    (¬ s.cfg.Valid ∧ step s = .refused .badConfiguration) ∨
    (s.cfg.Valid ∧ s.Idle ∧ s.inputs = [] ∧ step s = .next s) ∨
    (s.cfg.Valid ∧ s.Idle ∧ ∃ rest, s.inputs = .pass :: rest ∧ step s = .next s.dropInput) ∨
    (s.cfg.Valid ∧ ∃ rest, s.inputs = .rst :: rest ∧ step s = .next (resetEdge s.dropInput)) ∨
    (s.cfg.Valid ∧ s.Idle ∧ ∃ w rest, s.inputs = .word w :: rest ∧ step s = runWord w s) ∨
    (s.cfg.Valid ∧ s.Idle ∧ ∃ w rest, s.inputs = .edge w :: rest ∧ step s = whenTimed s (.next (clock s))) ∨
    (s.cfg.Valid ∧ ¬ s.Idle ∧ ∃ rest, s.inputs = .pass :: rest ∧ step s = clockStep s.dropInput) ∨
    (s.cfg.Valid ∧ ¬ s.Idle ∧ (∀ rest, s.inputs ≠ .rst :: rest) ∧ (∀ rest, s.inputs ≠ .pass :: rest) ∧
      step s = clockStep s) := by
  by_cases hv : s.cfg.Valid
  · by_cases hi : s.Idle
    · rw [show step s = idleStep s by rw [step, if_pos hv, if_pos hi], idleStep]
      rcases h : s.inputs with _ | ⟨_ | _ | _ | _, rest⟩
      · exact .inr (.inl ⟨hv, hi, rfl, rfl⟩)
      · exact .inr (.inr (.inr (.inr (.inl ⟨hv, hi, _, rest, rfl, rfl⟩))))
      · exact .inr (.inr (.inr (.inr (.inr (.inl ⟨hv, hi, _, rest, rfl, rfl⟩)))))
      · exact .inr (.inr (.inl ⟨hv, hi, rest, rfl, rfl⟩))
      · exact .inr (.inr (.inr (.inl ⟨hv, rest, rfl, rfl⟩)))
    · rw [show step s = busyStep s by rw [step, if_pos hv, if_neg hi], busyStep]
      rcases h : s.inputs with _ | ⟨_ | _ | _ | _, rest⟩
      · exact .inr (.inr (.inr (.inr (.inr (.inr (.inr ⟨hv, hi, by simp, by simp, rfl⟩))))))
      · exact .inr (.inr (.inr (.inr (.inr (.inr (.inr ⟨hv, hi, by simp, by simp, rfl⟩))))))
      · exact .inr (.inr (.inr (.inr (.inr (.inr (.inr ⟨hv, hi, by simp, by simp, rfl⟩))))))
      · exact .inr (.inr (.inr (.inr (.inr (.inr (.inl ⟨hv, hi, rest, rfl, rfl⟩))))))
      · exact .inr (.inr (.inr (.inl ⟨hv, rest, rfl, rfl⟩)))
  · exact .inl ⟨hv, by rw [step, if_neg hv]⟩

/-- A step of an idle block in a legal configuration, by its inputs alone. -/
theorem step_idle {s : State} (hv : s.cfg.Valid) (hi : s.Idle) : step s = idleStep s := by
  rw [step, if_pos hv, if_pos hi]

/-- A step of a busy block in a legal configuration. -/
theorem step_busy {s : State} (hv : s.cfg.Valid) (hi : ¬ s.Idle) : step s = busyStep s := by
  rw [step, if_pos hv, if_neg hi]

/-- One edge of a frame step does not look at what the host does next. -/
theorem frameEdge_inputs (cmd : Word16) (d : Bool) (s : State) (l : List Input) :
    frameEdge cmd d { s with inputs := l } = { frameEdge cmd d s with inputs := l } := by
  rcases s with ⟨⟩
  rename_i ph _ _ _ _ _ _
  cases ph <;> dsimp only [frameEdge] <;> repeat (first | rfl | split)

/-- Nor does the last step of an operation. -/
theorem finishEdge_inputs (s : State) (l : List Input) :
    finishEdge { s with inputs := l } = { finishEdge s with inputs := l } := by
  rcases s with ⟨⟩
  rename_i seq _ _ _ _ _ _ _ _ _ _ _ _ _
  rcases seq with ⟨op, n⟩
  cases op <;> rfl

/-- Nor does any step of the sequencer. -/
theorem stepEdge_inputs (d : Bool) (s : State) (l : List Input) :
    stepEdge d { s with inputs := l } = { stepEdge d s with inputs := l } := by
  unfold stepEdge
  rw [show ({ s with inputs := l } : State).current = s.current from rfl]
  rcases s.current with _ | a
  · rfl
  · cases a with
    | delay t => dsimp only; split <;> rfl
    | frame c => exact frameEdge_inputs c d s l
    | update => rfl
    | clear => rfl
    | finish => exact finishEdge_inputs s l

/-- A cycle of a busy block is its step's edge and the device's move. -/
theorem clock_busy {s : State} (hi : ¬ s.Idle) : clock s = deviceMoves s (stepEdge s.deviceBit s) := by
  rw [clock, hostMoves, if_neg (fun h => hi h.1), tick, if_neg (by simp [State.pins]), if_neg hi]; rfl

/-- A busy block's cycle does not look at what the host does next. -/
theorem clock_busy_inputs {s : State} (hi : ¬ s.Idle) (l : List Input) :
    clock { s with inputs := l } = { clock s with inputs := l } := by
  rw [clock_busy hi, clock_busy (show ¬ ({ s with inputs := l } : State).Idle from hi)]
  show deviceMoves { s with inputs := l } (stepEdge s.deviceBit { s with inputs := l }) = _
  rw [stepEdge_inputs]
  by_cases hf : s.ClosesFrame
  · rw [deviceMoves, deviceMoves, if_pos hf, if_pos (show ({ s with inputs := l } : State).ClosesFrame from hf)]; rfl
  · rw [deviceMoves, deviceMoves, if_neg hf, if_neg (show ¬ ({ s with inputs := l } : State).ClosesFrame from hf)]

/-- Everything `whenTimed` can answer. -/
theorem whenTimed_cases (s : State) (o : Host.Outcome State Fault Refusal) :
    (¬ s.cfg.Valid ∧ whenTimed s o = .refused .badConfiguration) ∨
    (s.cfg.Valid ∧ ¬ s.cfg.Timed ∧ whenTimed s o = .refused .badTiming) ∨
    (s.cfg.Valid ∧ s.cfg.Timed ∧ whenTimed s o = o) := by
  unfold whenTimed
  by_cases hv : s.cfg.Valid
  · by_cases ht : s.cfg.Timed
    · rw [if_pos hv, if_pos ht]; exact .inr (.inr ⟨hv, ht, rfl⟩)
    · rw [if_pos hv, if_neg ht]; exact .inr (.inl ⟨hv, ht, rfl⟩)
  · rw [if_neg hv]; exact .inl ⟨hv, rfl⟩

/-- Everything `clockStep` can do. -/
theorem clockStep_cases (s : State) :
    (¬ s.cfg.Valid ∧ clockStep s = .refused .badConfiguration) ∨
    (s.cfg.Valid ∧ ¬ s.cfg.Timed ∧ clockStep s = .refused .badTiming) ∨
    (s.cfg.Valid ∧ s.cfg.Timed ∧ s.current = none ∧ clockStep s = .fault .strayStep) ∨
    (s.cfg.Valid ∧ s.cfg.Timed ∧ s.current ≠ none ∧ clockStep s = .next (clock s)) := by
  rcases whenTimed_cases s (runningCycle s) with h | h | ⟨hv, ht, h⟩
  · exact .inl h
  · exact .inr (.inl h)
  · rw [show clockStep s = runningCycle s from h, runningCycle]
    rcases hc : s.current with _ | a
    · exact .inr (.inr (.inl ⟨hv, ht, rfl, rfl⟩))
    · exact .inr (.inr (.inr ⟨hv, ht, by simp, rfl⟩))

/-- An idle state of the invariant has its sequencer at `(IDLE, 0)`, its delay counter at 0 and its link at rest. -/
theorem idle_at_rest {s : State} (hI : s.Inv) (hi : s.Idle) :
    s.cfg.Valid ∧ s.seq = ⟨.idle, 0⟩ ∧ s.csN = true ∧ s.sck = s.cfg.cpol ∧ s.bitcnt = 0#5 ∧ s.ph = .idle ∧
      s.dly = 0#32 := by
  obtain ⟨⟨hv, _⟩, ⟨hs, _, hd⟩, ⟨_, hl, _⟩⟩ := hI
  obtain ⟨hst, hph⟩ := hs hi
  obtain ⟨h1, h2, h3⟩ := hl hph
  have h4 := hd hph (by simp [State.inDelay, State.current, hi, stepAction])
  have h5 : s.seq = ⟨.idle, 0⟩ := by cases h : s.seq; simp_all [State.Idle]
  exact ⟨hv, h5, h1, h2, h3, hph, h4⟩

/-- Everything one rising edge can do. -/
theorem tick_cases (p : PinIn) (s : State) :
    (p.rst = true ∧ tick p s = resetEdge s) ∨
    (p.rst = false ∧ s.Idle ∧ p.opValid = true ∧ tick p s = acceptEdge p.opw s) ∨
    (p.rst = false ∧ s.Idle ∧ p.opValid = false ∧ tick p s = s) ∨
    (p.rst = false ∧ ¬ s.Idle ∧ tick p s = stepEdge p.sdi s) := by
  unfold tick
  by_cases hi : s.Idle
  · rw [if_pos hi]
    cases hr : p.rst <;> cases hv : p.opValid
    · exact .inr (.inr (.inl ⟨rfl, hi, rfl, rfl⟩))
    · exact .inr (.inl ⟨rfl, hi, rfl, rfl⟩)
    · exact .inl ⟨rfl, rfl⟩
    · exact .inl ⟨rfl, rfl⟩
  · rw [if_neg hi]
    cases hr : p.rst
    · exact .inr (.inr (.inr ⟨rfl, hi, rfl⟩))
    · exact .inl ⟨rfl, rfl⟩

/-- A frame appends its event and does not read the trace. -/
theorem exchange_trace_irrelevant (c : Word16) (s : State) (tr : List LinkEvent) :
    exchange c { s with trace := tr } = { exchange c s with trace := tr ++ [.frm c s.response] } := rfl

end Sys2Proof.Machine
end

