-- ==== Sys2Proof/Laws/PerInstr.lean ====
section
/-! SUPPORT. Per-instruction laws of the encoding: the two fields of an operation word read back what the encoder wrote
(30_encoding.md rule R71), and a command word is one of the five (rule R74). -/

namespace Sys2Proof

theorem opwOf_getLsbD (c : BitVec 3) (a : Word16) (j : Nat) :
    (opwOf c a).getLsbD j = if j < 16 then a.getLsbD j else c.getLsbD (j - 16) :=
  BitVec.getLsbD_append (x := c) (y := a)

theorem opCode_opwOf (c : BitVec 3) (a : Word16) : opCode (opwOf c a) = c := by
  apply BitVec.eq_of_getLsbD_eq
  intro j hj
  simp [opCode, opwOf_getLsbD, hj]

theorem opArg_opwOf (c : BitVec 3) (a : Word16) : opArg (opwOf c a) = a := by
  apply BitVec.eq_of_getLsbD_eq
  intro j hj
  simp [opArg, opwOf_getLsbD, hj]

namespace Laws.Fields

/-- The operation code and operand rule R72 gives an instruction; none for a command word. -/
def fieldsOf : Instr → Option (BitVec 3 × Word16)
  | .rdreg a => some (0b000#3, a)
  | .config a => some (0b001#3, a)
  | .sample a => some (0b010#3, a)
  | .mech a => some (0b011#3, a)
  | .elec a => some (0b100#3, a)
  | .zero a => some (0b101#3, a)
  | .reserved6 a => some (0b110#3, a)
  | .reserved7 a => some (0b111#3, a)
  | .cmdIoCurrentConfig => none
  | .cmdPolarityZeroLow => none
  | .cmdZeroHigh => none
  | .cmdZeroPulseWidth => none
  | .cmdAngleRead => none

/-- The encoded word holds exactly those fields, or is a command word of rule R74. -/
def Statement (i : Instr) : Prop :=
  match encode i, fieldsOf i with
  | .opw w, some (c, a) => opCode w = c ∧ opArg w = a
  | .cmd16 w, none => w ∈ [0x47CE#16, 0x452F#16, 0x44FF#16, 0x4840#16, 0x0000#16]
  | _, _ => False

theorem rdreg (a : Word16) : Statement (.rdreg a) := ⟨opCode_opwOf _ _, opArg_opwOf _ _⟩
theorem config (a : Word16) : Statement (.config a) := ⟨opCode_opwOf _ _, opArg_opwOf _ _⟩
theorem sample (a : Word16) : Statement (.sample a) := ⟨opCode_opwOf _ _, opArg_opwOf _ _⟩
theorem mech (a : Word16) : Statement (.mech a) := ⟨opCode_opwOf _ _, opArg_opwOf _ _⟩
theorem elec (a : Word16) : Statement (.elec a) := ⟨opCode_opwOf _ _, opArg_opwOf _ _⟩
theorem zero (a : Word16) : Statement (.zero a) := ⟨opCode_opwOf _ _, opArg_opwOf _ _⟩
theorem reserved6 (a : Word16) : Statement (.reserved6 a) := ⟨opCode_opwOf _ _, opArg_opwOf _ _⟩
theorem reserved7 (a : Word16) : Statement (.reserved7 a) := ⟨opCode_opwOf _ _, opArg_opwOf _ _⟩
theorem cmdIoCurrentConfig : Statement .cmdIoCurrentConfig := by simp [Statement, encode, fieldsOf, wordIoCurrentConfig]
theorem cmdPolarityZeroLow : Statement .cmdPolarityZeroLow := by simp [Statement, encode, fieldsOf, wordPolarityZeroLow]
theorem cmdZeroHigh : Statement .cmdZeroHigh := by simp [Statement, encode, fieldsOf, wordZeroHigh]
theorem cmdZeroPulseWidth : Statement .cmdZeroPulseWidth := by simp [Statement, encode, fieldsOf, wordZeroPulseWidth]
theorem cmdAngleRead : Statement .cmdAngleRead := by simp [Statement, encode, fieldsOf, wordAngleRead]

end Laws.Fields

end Sys2Proof
end

