-- ==== Sys2Proof/Tests/Slice0.lean ====
section
/-! SUPPORT. The model's own tests: expected values are those of spec/95_test_vectors.md or of a rule's own example; and
for every obligation with hypotheses a witness that meets them together. -/

namespace Sys2Proof.Tests

open Sys2Proof Sys2Proof.Machine

/-! ## Configurations (00_scope.md rule R8): one ill-formed term for each check -/

theorem test_standard_valid : Config.standard.Valid := by decide
theorem test_standard_timed : Config.standard.Timed := by decide
theorem test_standard_params :
    Config.standard.k = 12 ∧ Config.standard.res = 4096 ∧ Config.standard.cycle = 585 ∧ Config.standard.nCs = 2 := by decide
theorem test_shift_16_refused : ¬ ({ Config.standard with shift := 16 } : Config).Valid := by decide
theorem test_w_below_k_refused : ¬ ({ Config.standard with w := 11 } : Config).Valid := by decide
theorem test_pp_zero_refused : ¬ ({ Config.standard with pp := 0 } : Config).Valid := by decide
theorem test_pp_above_res_refused : ¬ ({ Config.standard with pp := 4097 } : Config).Valid := by decide
theorem test_nhalf_zero_untimed : ¬ ({ Config.standard with nHalf := 0 } : Config).Timed := by decide
theorem test_nidle_zero_untimed : ¬ ({ Config.standard with nIdle := 0 } : Config).Timed := by decide
theorem test_long_half_untimed : ¬ ({ Config.standard with nHalf := 2 ^ 32 + 1 } : Config).Timed := by decide
theorem test_long_idle_untimed : ¬ ({ Config.standard with nIdle := 2 ^ 32 } : Config).Timed := by decide
/-- Rule R28: 100 ms does not fit in `DLY` from about 42.9 GHz on. -/
theorem test_fast_clock_untimed : ¬ ({ Config.standard with fClk := 43000000000 } : Config).Timed := by decide
theorem test_long_cs_untimed : ¬ ({ Config.standard with tCs := 3000000000000 } : Config).Timed := by decide
theorem test_long_cfg_untimed : ¬ ({ Config.standard with tCfg := 3000000000000 } : Config).Timed := by decide

/-! ## Decoding: words written out from rules R71, R72, R74 (vectors V1 to V12, S9) -/

theorem test_decode_rdreg : decodeTableWord 24 0b0000000000000000000 = some (.rdreg 0x0000#16) := by decide
theorem test_decode_wrreg : decodeTableWord 24 0b0000100011111001110 = some (.rdreg 0x47CE#16) := by decide
theorem test_decode_config : decodeTableWord 24 0b0010000000000000000 = some (.config 0x0000#16) := by decide
theorem test_decode_config_junk : decodeTableWord 24 0x1BEEF = some (.config 0xBEEF#16) := by decide
theorem test_decode_sample : decodeTableWord 24 0b0100000000000000000 = some (.sample 0x0000#16) := by decide
theorem test_decode_mech : decodeTableWord 24 0b0110000000000000000 = some (.mech 0x0000#16) := by decide
theorem test_decode_elec : decodeTableWord 24 0b1001111111111111111 = some (.elec 0xFFFF#16) := by decide
theorem test_decode_zero : decodeTableWord 24 0b1010000000000000000 = some (.zero 0x0000#16) := by decide
theorem test_decode_reserved6 : decodeTableWord 24 0b1100000000000000000 = some (.reserved6 0x0000#16) := by decide
theorem test_decode_reserved7 : decodeTableWord 24 0b1111010101111001101 = some (.reserved7 0xABCD#16) := by decide
theorem test_decode_io : decodeTableWord 16 0b0100011111001110 = some .cmdIoCurrentConfig := by decide
theorem test_decode_polarity : decodeTableWord 16 0b0100010100101111 = some .cmdPolarityZeroLow := by decide
theorem test_decode_high : decodeTableWord 16 0b0100010011111111 = some .cmdZeroHigh := by decide
theorem test_decode_pulse : decodeTableWord 16 0b0100100001000000 = some .cmdZeroPulseWidth := by decide
theorem test_decode_read : decodeTableWord 16 0b0000000000000000 = some .cmdAngleRead := by decide
/-- Rule R77: an unlisted command word is no row. -/
theorem test_decode_unlisted : decodeTableWord 16 0xFFFF = none := by decide
theorem test_decode_too_wide : decodeTableWord 24 0x80000 = none := by decide

/-! ## One operation from a small state -/

/-- An idle block with tracker `(LAST_RAW, ACC, ZERO_OFFSET)`, one presented word and a device script. -/
def withTracker (lastRaw acc zeroOffset : Nat) (w : Nat) (script : List Word16) : State :=
  { (State.reset.withFetchWord 24 w) with
    lastRaw := lastRaw, acc := acc, zeroOffset := zeroOffset, script := script }

/-- The tracker and the delivered results after one step, `none` if the step stops. -/
def trackerAfter (s : State) : Option (Nat × Nat × Nat × List Word16) :=
  (nextState? (step s)).map fun t => (t.lastRaw, t.acc, t.zeroOffset, t.results)

/-- RXDATA, the link trace and the three flags after one step. -/
def linkAfter (s : State) : Option (Word16 × List LinkEvent × Bool × Bool × Bool) :=
  (nextState? (step s)).map fun t => (t.rxdata, t.trace, t.configured, t.zeroed, t.illop)

/-- F1. -/
theorem test_rdreg_f1 :
    linkAfter (withTracker 0 0 0 0x00000 [0x0C85#16]) =
      some (0x0C85#16, [.frm 0x0000#16 0x0C85#16], false, false, false) := by decide
/-- F2. -/
theorem test_rdreg_f2 : trackerAfter (withTracker 0 0 0 0x047CE [0xFFFF#16]) = some (0, 0, 0, [0xFFFF#16]) := by decide
/-- F3. -/
theorem test_config_f3 :
    linkAfter (withTracker 0 0 0 0x10000 [0x1111#16, 0x2222#16, 0x3333#16, 0x4444#16, 0x0C80#16]) =
      some (0x0C80#16,
        [.dly 100000000, .frm 0x47CE#16 0x1111#16, .dly 1000000, .frm 0x452F#16 0x2222#16, .dly 1000000,
          .frm 0x44FF#16 0x3333#16, .dly 1000000, .frm 0x4840#16 0x4444#16, .dly 1000000, .frm 0x0000#16 0x0C80#16],
        true, false, false) := by decide
theorem test_config_tracker_still :
    trackerAfter (withTracker 7 7 3 0x1BEEF [0x1111#16, 0x2222#16, 0x3333#16, 0x4444#16, 0x0C80#16]) =
      some (7, 7, 3, [0x0000#16]) := by decide
/-- T2: forward across the wrap. -/
theorem test_sample_t2 : trackerAfter (withTracker 4090 4090 0 0x20000 [0x0050#16]) = some (5, 4101, 0, [0x0005#16]) := by
  decide
/-- T14: ACC overflows upward. -/
theorem test_sample_t14 :
    trackerAfter (withTracker 4095 0x7FFFFFFF 0 0x20000 [0x0000#16]) = some (0, 0x80000000, 0, [0x0000#16]) := by decide
/-- M2: exactly half a revolution. -/
theorem test_mech_m2 : trackerAfter (withTracker 0 0 0 0x30000 [0x8000#16]) = some (2048, 0xFFFFF800, 0, [0x0800#16]) := by
  decide
/-- M3. -/
theorem test_mech_m3 :
    trackerAfter (withTracker 200 200 200 0x30000 [0x8C80#16]) = some (2248, 0xFFFFF8C8, 200, [0x0800#16]) := by decide
/-- M6. -/
theorem test_elec_m6 : trackerAfter (withTracker 0 0 0 0x40000 [0x2480#16]) = some (584, 584, 0, [0x0FF8#16]) := by decide
/-- M5. -/
theorem test_elec_m5 : trackerAfter (withTracker 200 200 200 0x40000 [0x3110#16]) = some (785, 785, 200, [0x0000#16]) := by
  decide
/-- Z4: samples were taken before ZERO. -/
theorem test_zero_z4 :
    trackerAfter (withTracker 1000 1000 0 0x50000 [0x0C80#16]) = some (200, 0xFFFFFCE0, 3296, [0x0CE0#16]) := by decide
/-- Z6: half a revolution from the last sample. -/
theorem test_zero_z6 :
    trackerAfter (withTracker 0 5 77 0x50000 [0x8000#16]) = some (2048, 0xFFFFF800, 2048, [0x0800#16]) := by decide
/-- G1. -/
theorem test_reserved6_g1 :
    linkAfter (withTracker 0 0 0 0x60000 [0x0050#16]) = some (0x0000#16, [], false, false, true) := by decide
/-- P5. -/
theorem test_reserved7_p5 : trackerAfter (withTracker 0 0 0 0x7ABCD [0x0050#16]) = some (0, 0, 0, [0x0000#16]) := by decide
/-- A different `SHIFT` (section 5): with `SHIFT = 2` the word `0x0C85` gives raw 801. -/
theorem test_raw_shift2 : rawOf { Config.standard with shift := 2 } 0x0C85#16 = 801 := by decide

/-- An idle block with a bare command word presented. -/
def withCommand (w : Nat) : State := { State.reset.withFetchWord 16 w with script := [0x1234#16] }

/-- The frame of rule R90, one for each command word of rule R74. -/
theorem test_cmd_io :
    linkAfter (withCommand 0x47CE) = some (0x1234#16, [.frm 0x47CE#16 0x1234#16], false, false, false) := by decide
theorem test_cmd_polarity :
    linkAfter (withCommand 0x452F) = some (0x1234#16, [.frm 0x452F#16 0x1234#16], false, false, false) := by decide
theorem test_cmd_high :
    linkAfter (withCommand 0x44FF) = some (0x1234#16, [.frm 0x44FF#16 0x1234#16], false, false, false) := by decide
theorem test_cmd_pulse :
    linkAfter (withCommand 0x4840) = some (0x1234#16, [.frm 0x4840#16 0x1234#16], false, false, false) := by decide
theorem test_cmd_read : trackerAfter (withCommand 0x0000) = some (0, 0, 0, []) := by decide

/-! ## One clock edge (vector F4: `CPOL = 0`, `CPHA = 0`, `N_HALF = 1`, command `0x47CE`, response `0x1234`) -/

/-- The middle of the burst of vector F4: RDREG `0x47CE` with this much shifted, `sck` at this level. -/
def inBurst (rxsr txsr : Word16) (left : BitVec 5) (level : Bool) : State :=
  { State.reset with
    seq := ⟨.rdreg, 0⟩, arg := 0x47CE#16, csN := false, ph := .shift, sck := level, bitcnt := left, txsr := txsr,
    rxsr := rxsr, script := [0x1234#16] }

/-- Period 9, leading edge: `sdi` is `resp[7] = 0`. -/
theorem test_leading_edge_period9 :
    ((clock (inBurst 0x0009#16 0xCE00#16 8#5 false)).rxsr, (clock (inBurst 0x0009#16 0xCE00#16 8#5 false)).sck) =
      (0x0012#16, true) := by decide
/-- Period 7, trailing edge. -/
theorem test_trailing_edge_period7 :
    ((clock (inBurst 0x0009#16 0xF380#16 10#5 true)).txsr, (clock (inBurst 0x0009#16 0xF380#16 10#5 true)).bitcnt) =
      (0xE700#16, 9#5) := by decide
/-- Rule R91, HOLD to GAP: chip select rises and RXDATA takes the response. -/
theorem test_frame_closes :
    ((clock { inBurst 0x1234#16 0x0000#16 0#5 false with ph := .hold }).rxdata,
      (clock { inBurst 0x1234#16 0x0000#16 0#5 false with ph := .hold }).csN,
      (clock { inBurst 0x1234#16 0x0000#16 0#5 false with ph := .hold }).trace) =
      (0x1234#16, true, [.frm 0x47CE#16 0x1234#16]) := by decide
/-- G5: reset in the middle of a frame leaves no `Frm` event and produces no result. -/
theorem test_reset_in_frame_g5 :
    linkAfter { inBurst 0x0009#16 0xF380#16 10#5 true with inputs := [.rst] } =
      some (0x0000#16, [], false, false, false) := by decide
/-- Rule R172, as a run of the machine: RDREG accepted, three cycles left to pass, and reset while its frame is open. -/
theorem test_reset_reached_in_frame :
    (nextState? (Sys2Proof.core.run 4
        ({ State.reset with inputs := [.edge 0x047CE#19, .pass, .pass, .pass, .rst], script := [0x1234#16] } : State))).map
      (fun t : State => (t.csN, t.inputs)) = some (false, [.rst]) ∧
    (nextState? (Sys2Proof.core.run 5
        ({ State.reset with inputs := [.edge 0x047CE#19, .pass, .pass, .pass, .rst], script := [0x1234#16] } : State))).map
      (fun t : State => (t.csN, t.seq, t.trace, t.results)) = some (true, ⟨.idle, 0⟩, [], []) := ⟨by decide, by decide⟩
/-- Rule R33: in the first half-period of vector F4 the pins show the open window and the command's first bit, 0. -/
theorem test_pins_in_burst :
    ((outputs false (inBurst 0x0000#16 0x8001#16 16#5 false)).csN, (outputs false (inBurst 0x0000#16 0x8001#16 16#5 false)).sdo,
      (outputs false { inBurst 0x0000#16 0x8001#16 16#5 false with csN := true }).sdo) = (false, true, false) := by decide
/-- Rules R28, R97: CONFIG is accepted with `100 ms × 2 MHz` in `DLY`. -/
theorem test_delay_load :
    (acceptEdge 0x10000#19 State.reset).dly = 200000#32 := by decide
/-- Rule R8: with `PP = 0` a step is refused, with nothing presented and with a reset. -/
theorem test_step_refuses_bad_configuration :
    step (State.resetOf { Config.standard with pp := 0 }) = .refused .badConfiguration ∧
      step { State.resetOf { Config.standard with pp := 0 } with inputs := [.rst] } = .refused .badConfiguration :=
  ⟨rfl, rfl⟩
/-- Rule R30: the edge that accepts ZERO, from an idle block. -/
theorem test_accepting_edge :
    (nextState? (step { State.reset with inputs := [.edge 0x5ABCD#19] })).map (fun t => (t.seq, t.arg, t.inputs)) =
      some (⟨.zero, 0⟩, 0xABCD#16, []) := by decide
/-- Section 7: `status_o` is `0x9` during an operation issued after CONFIG. -/
theorem test_status_busy : (outputs false { inBurst 0x0000#16 0x0000#16 8#5 false with configured := true }).statusO = 0x9#4 := by
  decide

/-! ## Witnesses: the hypotheses of the obligations are met together -/

theorem witness_reset : State.reset.Inv ∧ State.reset.Idle ∧ State.reset.cfg.Timed := ⟨by decide, by decide, by decide⟩

/-- ResetAbandonsTheOperation: a reset of an idle and of a busy block, and one three cycles after acceptance. -/
theorem witness_reset_presented :
    (State.reset.cfg.Valid ∧ ({ State.reset with inputs := [.rst] } : State).inputs = .rst :: [] ∧
      ({ inBurst 0x0009#16 0xF380#16 10#5 true with inputs := [.rst] } : State).cfg.Valid ∧
      ({ inBurst 0x0009#16 0xF380#16 10#5 true with inputs := [.rst] } : State).inputs = .rst :: []) ∧
    ({ State.reset with inputs := [.edge 0x047CE#19, .pass, .pass, .pass, .rst] } : State).Inv ∧
      State.reset.cfg.Timed ∧ State.reset.Idle ∧
      ({ State.reset with inputs := [.edge 0x047CE#19, .pass, .pass, .pass, .rst] } : State).inputs =
        .edge 0x047CE#19 :: (List.replicate 3 .pass ++ .rst :: []) :=
  ⟨⟨by decide, rfl, by decide, rfl⟩, by decide, by decide, by decide, rfl⟩

/-- EncodeDecodeRoundTrip, for a word of each format. -/
theorem witness_decodes :
    decode (.opw 0x2BEEF#19) = .ok (.sample 0xBEEF#16) ∧ decode (.cmd16 0x4840#16) = .ok .cmdZeroPulseWidth := ⟨rfl, rfl⟩

/-- StepRunsTheDecodedInstruction. -/
theorem witness_presented :
    (withTracker 0 0 0 0x20000 []).Idle ∧ (withTracker 0 0 0 0x20000 []).inputs = .word (.opw 0x20000#19) :: [] ∧
      decode (.opw 0x20000#19) = .ok (.sample 0x0000#16) := ⟨rfl, rfl, rfl⟩

/-- UnlistedBareCommandIsRefused. -/
theorem witness_unlisted :
    (withCommand 0x1234).cfg.Valid ∧ (withCommand 0x1234).Idle ∧ (withCommand 0x1234).inputs = .word (.cmd16 0x1234#16) :: [] ∧
      0x1234#16 ∉ [0x47CE#16, 0x452F#16, 0x44FF#16, 0x4840#16, 0x0000#16] := ⟨by decide, by decide, rfl, by decide⟩

/-- IdleBlockWaits: both clauses. -/
theorem witness_waiting :
    State.reset.cfg.Valid ∧ State.reset.Idle ∧ State.reset.inputs = [] ∧
      ({ State.reset with inputs := [.pass, .rst] } : State).Idle ∧
      ({ State.reset with inputs := [.pass, .rst] } : State).inputs = .pass :: [.rst] :=
  ⟨by decide, by decide, rfl, by decide, rfl⟩

/-- ClockNeverClearsAFlag: pins with `rst = 0`, and a state with all three flags set. -/
theorem witness_flags :
    (⟨false, true, 0x50000#19, true⟩ : PinIn).rst = false ∧
      ({ State.reset with configured := true, zeroed := true, illop := true } : State).Inv := by decide

/-- The middle of a frame, with these inputs. -/
def busyWith (l : List Input) : State := { inBurst 0x0009#16 0xF380#16 10#5 true with inputs := l }

/-- BusyBlockHoldsTheRequest: the middle of a frame, with a request of each kind, with none, and with a cycle that
passes. -/
theorem witness_busy :
    (∀ l ∈ [[Input.word (.opw 0x20000#19)], [.edge 0x20000#19], [], [.pass]],
      (busyWith l).Inv ∧ (busyWith l).cfg.Timed ∧ ¬ (busyWith l).Idle) ∧
    (busyWith [.word (.opw 0x20000#19)]).inputs = .word (.opw 0x20000#19) :: [] ∧
    (busyWith [.edge 0x20000#19]).inputs = .edge 0x20000#19 :: [] ∧ (busyWith []).inputs = [] ∧
    (busyWith [.pass]).inputs = .pass :: [] := by
  refine ⟨?_, rfl, rfl, rfl, rfl⟩
  simp only [List.forall_mem_cons]
  exact ⟨⟨by decide, by decide, by decide⟩, ⟨by decide, by decide, by decide⟩, ⟨by decide, by decide, by decide⟩,
    ⟨by decide, by decide, by decide⟩, by simp⟩

/-- IllegalConfigurationIsRefused: `PP = 0`. -/
theorem witness_illegal :
    ¬ (4 ≤ 15 ∧ 16 - 4 ≤ 32 ∧ 1 ≤ ({ Config.standard with pp := 0 } : Config).pp ∧
      ({ Config.standard with pp := 0 } : Config).pp ≤ 2 ^ (16 - 4)) := by decide

/-- The state the result obligations start from: idle, in the invariant, with a script of five words. -/
def idleState : State :=
  { State.reset with
    lastRaw := 4090, acc := 4090, zeroOffset := 200,
    script := [0x0050#16, 0x0C80#16, 0x0C85#16, 0x8000#16, 0xFFFF#16] }

theorem witness_idle : idleState.Inv ∧ idleState.Idle := by decide

/-- ConfigRunsTheBringUpSequence: five words stand in the script of a state it speaks of. -/
theorem witness_config_script :
    idleState.Inv ∧ idleState.Idle ∧ idleState.script = [0x0050#16, 0x0C80#16, 0x0C85#16, 0x8000#16, 0xFFFF#16] :=
  ⟨by decide, by decide, rfl⟩

/-- SampleUpdatesAndReports, MechUpdatesAndReports, ElecUpdatesAndReports: `raw = 5`, `d = delta = 11`, `ACC = 4101`,
`m = 3901`. -/
theorem witness_sample_numbers :
    idleState.Inv ∧ idleState.Idle ∧ 5 = idleState.response.toNat / 2 ^ idleState.cfg.shift ∧
      (11 : Int) = ((5 : Nat) - idleState.lastRaw) % (idleState.cfg.res : Int) ∧
      (11 : Int) = (if 2 * 11 < idleState.cfg.res then 11 else 11 - idleState.cfg.res) ∧
      ((4101 : Nat) : Int) = ((idleState.acc : Int) + 11) % (2 ^ idleState.cfg.w : Nat) ∧
      ((3901 : Nat) : Int) = (((4101 : Nat) : Int) - idleState.zeroOffset) % (idleState.cfg.res : Int) := ⟨by decide, by decide, by decide, by decide, by decide, by decide, by decide⟩

/-- ZeroTakesTheSampleAsZero: `raw = 5`, `z = 11`, `ACC = 11`. -/
theorem witness_zero_numbers :
    idleState.Inv ∧ idleState.Idle ∧ 5 = idleState.response.toNat / 2 ^ idleState.cfg.shift ∧
      ((11 : Nat) : Int) = ((5 : Nat) - idleState.lastRaw) % (idleState.cfg.res : Int) ∧
      (11 : Int) = (if 2 * 11 < idleState.cfg.res then ((11 : Nat) : Int) else ((11 : Nat) : Int) - idleState.cfg.res) ∧
      ((11 : Nat) : Int) = 11 % (2 ^ idleState.cfg.w : Nat) := ⟨by decide, by decide, by decide, by decide, by decide, by decide⟩

/-- CommandWordsAreFrames. -/
theorem witness_command_pair :
    idleState.Inv ∧ idleState.Idle ∧
      (Instr.cmdZeroHigh, 0x44FF#16) ∈ [(Instr.cmdIoCurrentConfig, 0x47CE#16), (.cmdPolarityZeroLow, 0x452F#16),
        (.cmdZeroHigh, 0x44FF#16), (.cmdZeroPulseWidth, 0x4840#16), (.cmdAngleRead, 0x0000#16)] :=
  ⟨by decide, by decide, by decide⟩

/-- UnwrapKeepsTheOffset: `OFS = 0`. -/
theorem witness_offset :
    idleState.Inv ∧
      (0 : Int) = (signedOf idleState.cfg.w idleState.acc - idleState.lastRaw) % (idleState.cfg.res : Int) :=
  ⟨by decide, by decide⟩

/-- UncalibratedBlockReportsTheRawSample, from reset with a run of two instructions. -/
theorem witness_uncalibrated :
    State.reset.Inv ∧ State.reset.Idle ∧ State.reset.zeroOffset = 0 ∧
      State.reset.acc % State.reset.cfg.res = State.reset.lastRaw ∧
      ∀ i ∈ [Instr.sample 0x0000#16, Instr.elec 0x0000#16], isZero i = false :=
  ⟨by decide, by decide, by decide, by decide, by decide⟩

/-- EffectiveZeroHoldsUntilTheNextZero: the calibration sample is 5. -/
theorem witness_effective_zero :
    idleState.Inv ∧ idleState.Idle ∧ 5 = rawOf idleState.cfg idleState.response ∧
      ∀ i ∈ [Instr.mech 0x0000#16, Instr.rdreg 0x4840#16], isZero i = false :=
  ⟨by decide, by decide, by decide, by decide⟩

/-- SecondZeroAtRestStoresZero (Z1, Z3): two responses that carry raw 200. -/
theorem witness_second_zero :
    ({ State.reset with script := [0x0C80#16, 0x0C85#16] } : State).Inv ∧
      ({ State.reset with script := [0x0C80#16, 0x0C85#16] } : State).Idle ∧
      ∃ t, exec (.zero 0x0000#16) { State.reset with script := [0x0C80#16, 0x0C85#16] } = .next t ∧
        rawOf Config.standard t.response =
          rawOf Config.standard ({ State.reset with script := [0x0C80#16, 0x0C85#16] } : State).response :=
  ⟨by decide, by decide, _, rfl, by decide⟩

/-- AccumulatorTracksTheShaft: the positions 4090, 4101, 4090 (T2, T3). -/
theorem witness_tracking :
    idleState.Inv ∧ (idleState.lastRaw : Int) = 4090 % (idleState.cfg.res : Int) ∧
      (∀ pr ∈ [((4101 : Int), 0x0050#16), (4090, 0xFFA0#16)],
        (rawOf idleState.cfg pr.2 : Int) = pr.1 % (idleState.cfg.res : Int)) ∧
      List.IsChain (fun p q : Int => 2 * |q - p| < (idleState.cfg.res : Int)) [4090, 4101, 4090] ∧
      -(2 ^ idleState.cfg.w : Int) ≤ 2 * (signedOf idleState.cfg.w idleState.acc + (4090 - 4090)) ∧
      2 * (signedOf idleState.cfg.w idleState.acc + (4090 - 4090)) < (2 ^ idleState.cfg.w : Int) := by
  refine ⟨by decide, by decide, by decide, ?_, by decide, by decide⟩
  simp [show idleState.cfg.res = 4096 from by decide]

/-- AliasingKeepsTheCodes: from 4090 to 5, which may be any true movement congruent to it. -/
theorem witness_aliasing :
    ({ idleState with rxdata := 0x0050#16 } : State).Inv ∧ (idleState.lastRaw : Int) = 4090 % (idleState.cfg.res : Int) ∧
      (rawOf idleState.cfg 0x0050#16 : Int) = 8197 % (idleState.cfg.res : Int) := by decide

/-- ReferenceFormGivesTheSameCode: the table "Corrected form against the reference form", samples 5 and 4090. -/
theorem witness_reference :
    idleState.Inv ∧ (samples [0x0050#16] idleState).acc = 4101 ∧ (referenceSamples [0x0050#16] idleState).acc = 5 ∧
      (referenceSamples [0x0050#16, 0xFFA0#16] idleState).acc = 4090 := ⟨by decide, by decide, by decide, by decide⟩

/-- ElectricalCodeIsPeriodic: first clause at codes 1 and 586 (E1), second at 4000 and 416 with `PP = 8` (E2). -/
theorem witness_periodic :
    (({ State.reset with acc := 1 } : State).Inv ∧ ({ State.reset with acc := 586 } : State).Inv ∧
      ({ State.reset with acc := 586 } : State).mechCode =
        ({ State.reset with acc := 1 } : State).mechCode + State.reset.cfg.cycle ∧
      ({ State.reset with acc := 1 } : State).mechCode + State.reset.cfg.cycle < State.reset.cfg.res) ∧
    (({ State.reset with cfg := { Config.standard with pp := 8 }, acc := 4000 } : State).Inv ∧
      ({ State.reset with cfg := { Config.standard with pp := 8 }, acc := 416 } : State).Inv ∧
      ({ Config.standard with pp := 8 } : Config).pp ∣ ({ Config.standard with pp := 8 } : Config).res ∧
      ({ State.reset with cfg := { Config.standard with pp := 8 }, acc := 416 } : State).mechCode =
        (({ State.reset with cfg := { Config.standard with pp := 8 }, acc := 4000 } : State).mechCode + 512) % 4096) :=
  ⟨⟨by decide, by decide, by decide, by decide⟩, by decide, by decide, by decide, by decide⟩

/-- DiscardedBitsAffectNothing (X5, X6). -/
theorem witness_discarded :
    idleState.Inv ∧ idleState.Idle ∧ Instr.zero ∈ [Instr.sample, Instr.mech, Instr.elec, Instr.zero] ∧
      rawOf idleState.cfg 0x0C80#16 = rawOf idleState.cfg 0x0C85#16 := ⟨by decide, by decide, by simp, by decide⟩

/-- OperandIsIgnoredButByRdreg. -/
theorem witness_operations :
    idleState.Inv ∧ idleState.Idle ∧
      Instr.zero ∈ [Instr.config, Instr.sample, Instr.mech, Instr.elec, Instr.zero, Instr.reserved6, Instr.reserved7] :=
  ⟨by decide, by decide, by simp⟩

/-- ParametersNeverChange, EveryStepKeepsTheInvariant: a step of a state of the invariant answers a next state. -/
theorem witness_step_next :
    ∃ t, ({ idleState with inputs := [.word (.opw 0x50000#19)] } : State).Inv ∧
      step { idleState with inputs := [.word (.opw 0x50000#19)] } = .next t := ⟨_, by decide, rfl⟩

/-- DelayCountsDownToItsEnd: the edge that accepts CONFIG enters its power-on delay, and the edge that leaves the gap of its
first frame the delay after it. -/
theorem witness_delay_entered :
    State.reset.cfg.Timed ∧ (tick ⟨false, true, 0x10000#19, false⟩ State.reset).seq ≠ State.reset.seq ∧
      (tick ⟨false, true, 0x10000#19, false⟩ State.reset).current = some (.delay 100000000) ∧
      (tick ⟨false, false, 0#19, false⟩ { State.reset with seq := ⟨.config, 1⟩, ph := .gap }).seq ≠ ⟨.config, 1⟩ ∧
      (tick ⟨false, false, 0#19, false⟩ { State.reset with seq := ⟨.config, 1⟩, ph := .gap }).current =
        some (.delay 1000000) := ⟨by decide, by decide, by decide, by decide, by decide⟩

/-- DelayCountsDownToItsEnd: CONFIG in its power-on delay. -/
theorem witness_delay :
    ({ State.reset with seq := ⟨.config, 0⟩, dly := 3#32 } : State).Inv ∧
      ({ State.reset with seq := ⟨.config, 0⟩, dly := 3#32 } : State).current = some (.delay 100000000) := by decide

/-- BurstShiftsBitByBit: the start of the burst of F4. -/
theorem witness_burst :
    (inBurst 0x0000#16 0x47CE#16 16#5 false).inFrame = true ∧ (inBurst 0x0000#16 0x47CE#16 16#5 false).cfg.Timed ∧
      (inBurst 0x0000#16 0x47CE#16 16#5 false).ph = .shift ∧ (inBurst 0x0000#16 0x47CE#16 16#5 false).bitcnt = 16#5 ∧
      (inBurst 0x0000#16 0x47CE#16 16#5 false).sck = (inBurst 0x0000#16 0x47CE#16 16#5 false).cfg.cpol ∧
      (inBurst 0x0000#16 0x47CE#16 16#5 false).dly = halfPeriod (inBurst 0x0000#16 0x47CE#16 16#5 false).cfg ∧
      (1 ≤ 1 ∧ 1 ≤ 16) ∧ 1 ≤ 16 ∧ 16 ≤ 16 := by decide

/-- FrameAtPinLevelIsTheExchange: RDREG about to open its frame. -/
theorem witness_frame_start :
    ({ State.reset with seq := ⟨.rdreg, 0⟩, arg := 0x47CE#16 } : State).Inv ∧
      ({ State.reset with seq := ⟨.rdreg, 0⟩, arg := 0x47CE#16 } : State).cfg.Timed ∧
      ({ State.reset with seq := ⟨.rdreg, 0⟩, arg := 0x47CE#16 } : State).current = some (.frame 0x47CE#16) ∧
      ({ State.reset with seq := ⟨.rdreg, 0⟩, arg := 0x47CE#16 } : State).ph = .idle :=
  ⟨by decide, by decide, by decide, rfl⟩

/-- ResultPulseLastsOneCycle: both cases of `res_valid`. -/
theorem witness_result_pulse :
    ({ State.reset with seq := ⟨.sample, 2⟩ } : State).Inv ∧
      (outputs false { State.reset with seq := ⟨.sample, 2⟩ }).resValid = true ∧
      (outputs false State.reset).resValid = false := by decide

/-- ClockAgreesWithTheTransaction. -/
theorem witness_clock :
    (withTracker 0 0 0 0x20000 [0x0050#16]).Inv ∧ (withTracker 0 0 0 0x20000 [0x0050#16]).Idle ∧
      (withTracker 0 0 0 0x20000 [0x0050#16]).inputs = .word (.opw 0x20000#19) :: [] := by decide

/-- AcceptingEdgeIsOneStep, and CycleByCycleRunEndsWhereOneStepEnds with two cycles in which nothing is presented and a
request held after them. -/
theorem witness_edge :
    ({ idleState with inputs := [.edge 0x50000#19, .pass, .pass, .edge 0x20000#19] } : State).Inv ∧ idleState.cfg.Timed ∧ idleState.Idle ∧
      ({ idleState with inputs := [.edge 0x50000#19, .pass, .pass, .edge 0x20000#19] } : State).inputs =
        .edge 0x50000#19 :: (List.replicate 2 .pass ++ [.edge 0x20000#19]) ∧
      (∀ more, [Input.edge 0x20000#19] ≠ .rst :: more) ∧ ∀ more, [Input.edge 0x20000#19] ≠ .pass :: more :=
  ⟨by decide, by decide, by decide, rfl, by simp, by simp⟩

/-- HandshakeOfTheOperationPort: an idle and a busy state. -/
theorem witness_handshake : State.reset.Idle ∧ ¬ (inBurst 0x0000#16 0x47CE#16 16#5 false).Idle := by decide

/-- StepListsAreTheRules: a step number beyond every list. -/
theorem witness_beyond_lists : 12 ≤ 12 ∧ stepAction Config.standard 0x0000#16 .config 12 = none := by decide

end Sys2Proof.Tests
end

section
/-! SUPPORT. A configuration that breaks a constraint (00_scope.md rule R8) is refused before anything else is looked at:
one lemma for each place that checks it, then the statement. -/

namespace Sys2Proof.Machine

/-- The handshake refuses an illegal configuration whatever the effect behind it, idle or busy. -/
theorem whenReady_of_not_valid {s : State} (h : ¬ s.cfg.Valid) (f : State → State) :
    whenReady s f = .refused .badConfiguration := if_neg h

theorem exec_of_not_valid {s : State} (h : ¬ s.cfg.Valid) (i : Instr) : exec i s = .refused .badConfiguration := by
  rw [exec_eq_whenReady, whenReady_of_not_valid h]

/-- The step refuses an illegal configuration before it looks at its inputs, idle or busy. -/
theorem step_of_not_valid {s : State} (h : ¬ s.cfg.Valid) : step s = .refused .badConfiguration := if_neg h

/-- Settles O13: the constraints written out in the statement are those of `Config.Valid`, with `K = 16 - SHIFT` and
`RES = 2 ^ K`, which both the handshake of every instruction and the step check first. -/
theorem illegalConfigurationIsRefused : Obligations.IllegalConfigurationIsRefused := by
  intro s i hbroken
  have h : ¬ s.cfg.Valid := hbroken
  exact ⟨exec_of_not_valid h i, step_of_not_valid h⟩

end Sys2Proof.Machine
end

section
/-! SUPPORT. What `exec`, `step` and the sequencer's edge can answer, once each: the inversion lemmas the statements of the
state (10_state.md) are derived from. -/

namespace Sys2Proof.Machine

/-! ### The step lists -/

theorem not_idle_of_current {s : State} {a : Action} (h : s.current = some a) : ¬ s.Idle := by
  intro hi
  simp [State.current, show s.seq.op = .idle from hi, stepAction] at h

/-- Every list goes on until its last step (10_state.md rule R26). -/
theorem stepAction_succ {c : Config} {arg : Word16} {op : OpName} {n : Nat} (h : stepAction c arg op n ≠ none)
    (hf : stepAction c arg op n ≠ some .finish) : stepAction c arg op (n + 1) ≠ none := by
  revert h hf
  fun_cases stepAction c arg op n <;> simp [stepAction]

/-- No list has more than eleven steps. -/
theorem stepAction_of_le (c : Config) (arg : Word16) (op : OpName) {n : Nat} (h : 12 ≤ n) :
    stepAction c arg op n = none := by
  fun_cases stepAction c arg op n
  case case28 => rfl
  all_goals omega

/-- Every operation word starts an operation that has a first step. -/
theorem stepAction_opOfCode (c : Config) (arg : Word16) (code : BitVec 3) :
    stepAction c arg (opOfCode code) 0 ≠ none := by
  fun_cases opOfCode code <;> simp [stepAction]

/-! ### The last step of a list -/

/-- The writes beside the last `Result` (rules R76, R95, R140). -/
theorem lastWrites_cases (s : State) :
    lastWrites s = s ∨ lastWrites s = s.setConfigured ∨ lastWrites s = storeZero s ∨ lastWrites s = s.setIllop := by
  unfold lastWrites
  cases s.seq.op <;> simp

/-! ### `exec` -/

theorem exec_idle {s : State} (hI : s.Inv) (hi : s.Idle) (i : Instr) : exec i s = .next (effectOf i s) := by
  rw [exec_eq_whenReady, whenReady_idle s _ hI.1.1 hi]

theorem exec_busy {s : State} (hI : s.Inv) (hi : ¬ s.Idle) (i : Instr) : exec i s = .next s := by
  rw [exec_eq_whenReady, whenReady, if_pos hI.1.1, if_neg hi]

/-- A request that is answered with a state was not accepted, or had its effect on an idle block. -/
theorem exec_next {i : Instr} {s t : State} (h : exec i s = .next t) : t = s ∨ (s.Idle ∧ t = effectOf i s) := by
  rw [exec_eq_whenReady] at h
  rcases whenReady_cases s (effectOf i) with ⟨_, h'⟩ | ⟨_, hi, h'⟩ | ⟨_, _, h'⟩ <;> rw [h'] at h <;> cases h
  · exact .inr ⟨hi, rfl⟩
  · exact .inl rfl

/-! ### What an instruction's effect changes and leaves -/

theorem effectOf_cfg (i : Instr) (s : State) : (effectOf i s).cfg = s.cfg := by
  cases i <;> simp [effectOf, takeSample, configWrite, recordIllegal]

theorem effectOf_keeps_tracker {i : Instr} (h : writesTracker i = false) (s : State) :
    (effectOf i s).lastRaw = s.lastRaw ∧ (effectOf i s).acc = s.acc ∧ (effectOf i s).zeroOffset = s.zeroOffset := by
  cases i <;> simp_all [writesTracker, effectOf, configWrite, recordIllegal]

theorem effectOf_keeps_zero {i : Instr} (h : isZero i = false) (s : State) :
    (effectOf i s).zeroOffset = s.zeroOffset ∧ (effectOf i s).zeroed = s.zeroed := by
  cases i <;> simp_all [isZero, effectOf, takeSample, configWrite, recordIllegal]

theorem effectOf_configured (i : Instr) (s : State) :
    (effectOf i s).configured = true ↔ s.configured = true ∨ ∃ a, i = .config a := by
  cases i <;> simp [effectOf, takeSample, configWrite, recordIllegal]

theorem effectOf_zeroed (i : Instr) (s : State) :
    (effectOf i s).zeroed = true ↔ s.zeroed = true ∨ ∃ a, i = .zero a := by
  cases i <;> simp [effectOf, takeSample, configWrite, recordIllegal]

theorem effectOf_illop (i : Instr) (s : State) :
    (effectOf i s).illop = true ↔ s.illop = true ∨ (∃ a, i = .reserved6 a) ∨ ∃ a, i = .reserved7 a := by
  cases i <;> simp [effectOf, takeSample, configWrite, recordIllegal]

/-! ### One edge of a frame and of a step list -/

/-- The fields no edge of a frame touches. -/
structure SameOutsideLink (s t : State) : Prop where
  cfg : t.cfg = s.cfg
  lastRaw : t.lastRaw = s.lastRaw
  acc : t.acc = s.acc
  zeroOffset : t.zeroOffset = s.zeroOffset
  configured : t.configured = s.configured
  zeroed : t.zeroed = s.zeroed
  illop : t.illop = s.illop
  arg : t.arg = s.arg
  results : t.results = s.results

theorem frameEdge_sameOutsideLink (cmd : Word16) (d : Bool) (s : State) : SameOutsideLink s (frameEdge cmd d s) := by
  fun_cases frameEdge cmd d s <;> constructor <;> rfl

/-- Only the edge that ends the gap leaves the step. -/
theorem frameEdge_seq (cmd : Word16) (d : Bool) {s : State} (hgap : ¬ (s.ph = .gap ∧ s.dly = 0#32)) :
    (frameEdge cmd d s).seq = s.seq := by
  fun_cases frameEdge cmd d s
  case case10 hp hd => exact absurd ⟨hp, hd⟩ hgap
  all_goals rfl

theorem frameEdge_current (cmd : Word16) (d : Bool) {s : State} (hgap : ¬ (s.ph = .gap ∧ s.dly = 0#32)) :
    (frameEdge cmd d s).current = s.current := by
  have h := frameEdge_sameOutsideLink cmd d s
  rw [State.current, h.cfg, h.arg, frameEdge_seq cmd d hgap, ← State.current.eq_def]

/-- Everything one edge of the step the sequencer is at can do. -/
theorem stepEdge_cases (d : Bool) (s : State) :
    (s.current = none ∧ stepEdge d s = s) ∨
    (∃ t, s.current = some (.delay t) ∧ s.dly = 0#32 ∧
      stepEdge d s = advance { s with trace := s.trace ++ [.dly t] }) ∨
    (∃ t, s.current = some (.delay t) ∧ s.dly ≠ 0#32 ∧ stepEdge d s = countDown s) ∨
    (∃ cmd, s.current = some (.frame cmd) ∧ stepEdge d s = frameEdge cmd d s) ∨
    (s.current = some .update ∧ stepEdge d s = advance (unwrap s)) ∨
    (s.current = some .clear ∧ stepEdge d s = advance (clearTracker s)) ∨
    (s.current = some .finish ∧ stepEdge d s = finishEdge s) := by
  fun_cases stepEdge d s <;> simp_all

/-! ### `step` -/

theorem runWord_next {w : InWord} {s t : State} (h : runWord w s = .next t) : ∃ i, exec i s.dropInput = .next t := by
  unfold runWord at h
  split at h
  · exact ⟨_, h⟩
  · cases h

theorem whenTimed_next {s t : State} {o : Host.Outcome State Fault Refusal} (h : whenTimed s o = .next t) :
    o = .next t := by
  rcases whenTimed_cases s o with ⟨_, h'⟩ | ⟨_, _, h'⟩ | ⟨_, _, h'⟩ <;> rw [h'] at h
  · cases h
  · cases h
  · exact h

theorem clockStep_next {s t : State} (h : clockStep s = .next t) : t = clock s := by
  rcases clockStep_cases s with ⟨_, h'⟩ | ⟨_, _, h'⟩ | ⟨_, _, _, h'⟩ | ⟨_, _, _, h'⟩ <;> rw [h'] at h <;> cases h
  rfl

/-- A step that gives a state waited, took a reset, ran an instruction, or was one cycle of the clock. -/
theorem step_next {s t : State} (h : step s = .next t) :
    t = s ∨ t = s.dropInput ∨ t = resetEdge s.dropInput ∨ (∃ i, exec i s.dropInput = .next t) ∨ t = clock s ∨
      t = clock s.dropInput := by
  rcases step_cases s with ⟨_, h'⟩ | ⟨_, _, _, h'⟩ | ⟨_, _, _, _, h'⟩ | ⟨_, _, _, h'⟩ | ⟨_, _, _, _, _, h'⟩ |
    ⟨_, _, _, _, _, h'⟩ | ⟨_, _, _, _, h'⟩ | ⟨_, _, _, _, h'⟩ <;> rw [h'] at h
  · cases h
  · cases h; exact .inl rfl
  · cases h; exact .inr (.inl rfl)
  · cases h; exact .inr (.inr (.inl rfl))
  · exact .inr (.inr (.inr (.inl (runWord_next h))))
  · cases whenTimed_next h; exact .inr (.inr (.inr (.inr (.inl rfl))))
  · exact .inr (.inr (.inr (.inr (.inr (clockStep_next h)))))
  · exact .inr (.inr (.inr (.inr (.inl (clockStep_next h)))))

end Sys2Proof.Machine
end

section
/-! SUPPORT. The invariant of the machine (10_state.md rules R21 to R23, R26, R27) piece by piece: the widths of the tracker,
the engine at rest, the registers of an open frame. Then the two preservation statements. -/

namespace Sys2Proof.Machine

/-! ### The widths of the tracker registers -/

theorem rangesOk_congr {s t : State} (h : s.RangesOk) (hc : t.cfg = s.cfg) (hl : t.lastRaw = s.lastRaw)
    (ha : t.acc = s.acc) (hz : t.zeroOffset = s.zeroOffset) : t.RangesOk := by
  rwa [State.RangesOk, hc, hl, ha, hz]

theorem unwrap_rangesOk {s : State} (h : s.RangesOk) : (unwrap s).RangesOk := by
  obtain ⟨hv, _, _, hz⟩ := h
  exact ⟨hv, rawOf_lt s.cfg hv s.rxdata, wrapTo_lt _ _, hz⟩

theorem clearTracker_rangesOk {s : State} (h : s.RangesOk) : (clearTracker s).RangesOk := by
  obtain ⟨hv, hl, _, _⟩ := h
  exact ⟨hv, hl, Nat.two_pow_pos _, res_pos _⟩

theorem storeZero_rangesOk {s : State} (h : s.RangesOk) : (storeZero s).RangesOk := by
  obtain ⟨hv, hl, ha, _⟩ := h
  exact ⟨hv, hl, ha, mechCode_lt s⟩

theorem resetOf_rangesOk {c : Config} (h : c.Valid) : (State.resetOf c).RangesOk :=
  ⟨h, res_pos _, Nat.two_pow_pos _, res_pos _⟩

theorem takeSample_rangesOk {s : State} (h : s.RangesOk) : (takeSample s).RangesOk :=
  unwrap_rangesOk (s := exchange wordAngleRead s) h

theorem lastWrites_rangesOk {s : State} (h : s.RangesOk) : (lastWrites s).RangesOk := by
  rcases lastWrites_cases s with h' | h' | h' | h' <;> rw [h']
  · exact h
  · exact h
  · exact storeZero_rangesOk h
  · exact h

theorem effectOf_rangesOk_of_not_writesTracker {i : Instr} {s : State} (hw : writesTracker i = false)
    (h : s.RangesOk) : (effectOf i s).RangesOk := by
  obtain ⟨hl, ha, hz⟩ := effectOf_keeps_tracker hw s
  exact rangesOk_congr h (effectOf_cfg i s) hl ha hz

theorem effectOf_rangesOk (i : Instr) {s : State} (h : s.RangesOk) : (effectOf i s).RangesOk := by
  cases i with
  | sample a => exact takeSample_rangesOk (s := latch a s) h
  | mech a => exact takeSample_rangesOk (s := latch a s) h
  | elec a => exact takeSample_rangesOk (s := latch a s) h
  | zero a =>
    exact storeZero_rangesOk (takeSample_rangesOk (clearTracker_rangesOk (s := latch a s) h))
  | _ => exact effectOf_rangesOk_of_not_writesTracker (by rfl) h

/-! ### The engine at rest -/

/-- The frame engine and the delay counter between two steps that use them (rules R27, R28, R91). -/
def State.EngineAtRest (s : State) : Prop :=
  s.ph = .idle ∧ s.csN = true ∧ s.sck = s.cfg.cpol ∧ s.bitcnt = 0#5 ∧ s.dly = 0#32

/-- The invariant of an idle block. -/
theorem inv_of_idle {s : State} (hr : s.RangesOk) (he : s.EngineAtRest) (hs : s.seq = ⟨.idle, 0⟩) : s.Inv := by
  obtain ⟨hp, hc, hk, hb, hd⟩ := he
  refine ⟨hr, ⟨fun _ => ⟨by rw [hs], hp⟩, fun hi => absurd (by rw [State.Idle, hs]) hi, fun _ _ => hd⟩, ?_⟩
  simp [State.LinkOk, hp, hc, hk, hb]

/-- The invariant on entry to a step: only a delay step loads `DLY`. -/
theorem enterStep_inv {s : State} {op : OpName} {n : Nat} (hr : s.RangesOk) (he : s.EngineAtRest)
    (ha : stepAction s.cfg s.arg op n ≠ none) : (enterStep op n s).Inv := by
  obtain ⟨hp, hc, hk, hb, _⟩ := he
  have hcur : (enterStep op n s).current = stepAction s.cfg s.arg op n := rfl
  have hbusy : ¬ (enterStep op n s).Idle := fun hi => ha (by rw [show op = .idle from hi]; rfl)
  have hdly : (enterStep op n s).inDelay = false → (enterStep op n s).dly = 0#32 := by
    rw [State.inDelay, hcur, enterStep_dly]
    rcases stepAction s.cfg s.arg op n with _ | ⟨_ | _ | _ | _ | _⟩ <;> simp [entryDelay]
  refine ⟨hr, ⟨fun hi => absurd hi hbusy, fun _ => by rwa [hcur], fun _ => hdly⟩, ?_⟩
  simp_all [State.LinkOk]

theorem advance_inv {s : State} {a : Action} (hr : s.RangesOk) (he : s.EngineAtRest) (hc : s.current = some a)
    (ha : a ≠ .finish) : (advance s).Inv :=
  enterStep_inv hr he (stepAction_succ (show s.current ≠ none by simp [hc]) (show s.current ≠ some .finish by simp [hc, ha]))

/-- Outside frames and delays the invariant has the engine at rest (rule R158). -/
theorem engineAtRest_of_current {s : State} {a : Action} (hI : s.Inv) (hc : s.current = some a)
    (hf : ∀ cmd, a ≠ .frame cmd) (hd : s.dly = 0#32 ∨ ∀ t, a ≠ .delay t) : s.EngineAtRest := by
  obtain ⟨_, ⟨_, _, hdly⟩, hframe, hidle, _⟩ := hI
  have hp : s.ph = .idle := by
    by_contra hp
    have := hframe hp
    cases a <;> simp_all [State.inFrame]
  obtain ⟨h1, h2, h3⟩ := hidle hp
  refine ⟨hp, h1, h2, h3, hd.elim id fun hd => hdly hp ?_⟩
  cases a <;> simp_all [State.inDelay]

theorem engineAtRest_of_idle {s : State} (hI : s.Inv) (hi : s.Idle) : s.EngineAtRest := by
  obtain ⟨_, _, h1, h2, h3, hp, hd⟩ := idle_at_rest hI hi
  exact ⟨hp, h1, h2, h3, hd⟩

/-- An instruction ends with the last frame it makes, or touches the engine not at all. -/
theorem effectOf_engineAtRest (i : Instr) {s : State} (h : s.EngineAtRest) : (effectOf i s).EngineAtRest := by
  cases i with
  | reserved6 a => exact h
  | reserved7 a => exact h
  | _ => exact ⟨rfl, rfl, rfl, rfl, rfl⟩

theorem effectOf_seq (i : Instr) {s : State} (h : s.seq = ⟨.idle, 0⟩) : (effectOf i s).seq = ⟨.idle, 0⟩ := by
  cases i <;> simp [effectOf, h, recordIllegal]

theorem effectOf_inv (i : Instr) {s : State} (hI : s.Inv) (hi : s.Idle) : (effectOf i s).Inv := by
  obtain ⟨_, hs, _⟩ := idle_at_rest hI hi
  exact inv_of_idle (effectOf_rangesOk i hI.1) (effectOf_engineAtRest i (engineAtRest_of_idle hI hi)) (effectOf_seq i hs)

theorem exec_inv {i : Instr} {s t : State} (hI : s.Inv) (h : exec i s = .next t) : t.Inv := by
  rcases exec_next h with rfl | ⟨hi, rfl⟩
  · exact hI
  · exact effectOf_inv i hI hi

theorem resetOf_inv {c : Config} (h : c.Valid) : (State.resetOf c).Inv :=
  inv_of_idle (resetOf_rangesOk h) ⟨rfl, rfl, rfl, rfl, rfl⟩ rfl

theorem resetEdge_inv {s : State} (hI : s.Inv) : (resetEdge s).Inv :=
  inv_of_idle (resetOf_rangesOk hI.1.1) ⟨rfl, rfl, rfl, rfl, rfl⟩ rfl

theorem acceptEdge_inv (w : OpWord) {s : State} (hI : s.Inv) (hi : s.Idle) : (acceptEdge w s).Inv :=
  have he : s.EngineAtRest := engineAtRest_of_idle hI hi
  enterStep_inv (s := latch (opArg w) s) hI.1 he (stepAction_opOfCode _ _ _)

theorem finishEdge_inv {s : State} (hr : s.RangesOk) (he : s.EngineAtRest) : (finishEdge s).Inv := by
  have he' : (lastWrites s).EngineAtRest := by
    rcases lastWrites_cases s with h | h | h | h <;> rw [h] <;> exact he
  exact inv_of_idle (lastWrites_rangesOk hr) he' rfl

/-! ### An open frame -/

/-- What an open frame's phase says of the chip select, the clock pin and the bit count (rules R27, R91); the phase IDLE
is none of an open frame. -/
def State.OpenFrameOk (s : State) : Prop :=
  match s.ph with
  | .idle => False
  | .setup => s.csN = false ∧ s.sck = s.cfg.cpol ∧ s.bitcnt = 16#5
  | .shift => s.csN = false ∧ s.bitcnt ≤ 16#5 ∧ (s.sck ≠ s.cfg.cpol → s.bitcnt ≠ 0#5)
  | .hold => s.csN = false ∧ s.sck = s.cfg.cpol ∧ s.bitcnt = 0#5
  | .gap => s.csN = true ∧ s.sck = s.cfg.cpol ∧ s.bitcnt = 0#5

/-- In a frame step the invariant is the widths and the registers of the phase. -/
theorem inv_of_openFrame {s : State} {cmd : Word16} (hr : s.RangesOk) (hc : s.current = some (.frame cmd))
    (ho : s.OpenFrameOk) : s.Inv := by
  have hf : s.inFrame = true := by rw [State.inFrame, hc]
  refine ⟨hr, ⟨fun hi => absurd hi (not_idle_of_current hc), fun _ => by simp [hc], ?_⟩, fun _ => hf, ?_⟩
  · intro hp; simp [State.OpenFrameOk, hp] at ho
  · cases hp : s.ph <;> simp_all [State.OpenFrameOk]

theorem openFrameOk_of_inv {s : State} (hI : s.Inv) (hp : s.ph ≠ .idle) : s.OpenFrameOk := by
  obtain ⟨_, _, _, _, hsetup, hshift, hhold, hgap⟩ := hI
  cases h : s.ph <;> simp_all [State.OpenFrameOk]

/-- One edge of an open frame leaves it open as its phase says, until the end of the gap. -/
theorem frameEdge_openFrameOk (cmd : Word16) (d : Bool) {s : State} (ho : s.OpenFrameOk)
    (hgap : ¬ (s.ph = .gap ∧ s.dly = 0#32)) : (frameEdge cmd d s).OpenFrameOk := by
  cases hp : s.ph with
  | idle => simp [State.OpenFrameOk, hp] at ho
  | setup =>
    by_cases hd : s.dly = 0#32 <;> simp_all [frameEdge, State.OpenFrameOk]
  | shift =>
    obtain ⟨hcs, hle, hne⟩ : s.csN = false ∧ s.bitcnt ≤ 16#5 ∧ (s.sck ≠ s.cfg.cpol → s.bitcnt ≠ 0#5) := by
      simpa [State.OpenFrameOk, hp] using ho
    simp only [frameEdge, hp]
    split
    case isTrue hdone => exact ⟨hcs, hdone.2, hdone.1⟩
    case isFalse hmore =>
      split
      · simpa [State.OpenFrameOk, hp] using ho
      · split
        case isTrue hk =>
          have hb : s.bitcnt ≠ 0#5 := fun hb => hmore ⟨hb, hk⟩
          simp [State.OpenFrameOk, leadingEdge, hp, hcs, hle, hb]
        case isFalse hk =>
          have hb := hne hk
          have : s.bitcnt - 1#5 ≤ 16#5 := by bv_omega
          simp [State.OpenFrameOk, trailingEdge, hp, hcs, this]
  | hold =>
    by_cases hd : s.dly = 0#32 <;> simp_all [frameEdge, State.OpenFrameOk]
  | gap =>
    have hd : s.dly ≠ 0#32 := fun hd => hgap ⟨hp, hd⟩
    simp_all [frameEdge, State.OpenFrameOk]

theorem openFrame_openFrameOk (cmd : Word16) {s : State} (hk : s.sck = s.cfg.cpol) : (openFrame cmd s).OpenFrameOk :=
  ⟨rfl, hk, rfl⟩

end Sys2Proof.Machine
end

section
/-! SUPPORT. Every edge and every step keeps the invariant. -/

namespace Sys2Proof.Machine

theorem countDown_inv {s : State} (hI : s.Inv) (h : s.ph = .idle → s.inDelay = true) : (countDown s).Inv := by
  obtain ⟨hr, ⟨hs, hc, _⟩, hl⟩ := hI
  refine ⟨hr, ⟨hs, hc, fun hp hd => ?_⟩, hl⟩
  exact absurd (show s.inDelay = false from hd) (by simp [h hp])

theorem frameEdge_inv {cmd : Word16} (d : Bool) {s : State} (hI : s.Inv) (hc : s.current = some (.frame cmd)) :
    (frameEdge cmd d s).Inv := by
  have hsame := frameEdge_sameOutsideLink cmd d s
  have hr : (frameEdge cmd d s).RangesOk :=
    rangesOk_congr hI.1 hsame.cfg hsame.lastRaw hsame.acc hsame.zeroOffset
  by_cases hp : s.ph = .idle
  · have hcur := frameEdge_current cmd d (s := s) (by simp [hp])
    refine inv_of_openFrame hr (hcur.trans hc) ?_
    obtain ⟨_, _, _, hidle, _⟩ := hI
    obtain ⟨_, hk, _⟩ := hidle hp
    simpa [frameEdge, hp] using openFrame_openFrameOk cmd hk
  · have ho := openFrameOk_of_inv hI hp
    by_cases hgap : s.ph = .gap ∧ s.dly = 0#32
    · obtain ⟨hp, hd⟩ := hgap
      obtain ⟨hcs, hk, hb⟩ : s.csN = true ∧ s.sck = s.cfg.cpol ∧ s.bitcnt = 0#5 := by
        simpa [State.OpenFrameOk, hp] using ho
      have he : ({ s with ph := .idle } : State).EngineAtRest := ⟨rfl, hcs, hk, hb, hd⟩
      simpa only [frameEdge, hp, hd, if_true] using advance_inv (s := { s with ph := .idle }) hI.1 he hc (by simp)
    · exact inv_of_openFrame hr ((frameEdge_current cmd d hgap).trans hc) (frameEdge_openFrameOk cmd d ho hgap)

/-- Every step of every list keeps the invariant (rule R26). -/
theorem stepEdge_inv (d : Bool) {s : State} (hI : s.Inv) : (stepEdge d s).Inv := by
  rcases stepEdge_cases d s with ⟨_, h⟩ | ⟨t, hc, hd, h⟩ | ⟨t, hc, _, h⟩ | ⟨cmd, hc, h⟩ | ⟨hc, h⟩ | ⟨hc, h⟩ | ⟨hc, h⟩ <;>
    rw [h]
  · exact hI
  · have he := engineAtRest_of_current hI hc (by simp) (.inl hd)
    exact advance_inv (s := { s with trace := s.trace ++ [.dly t] }) hI.1 he hc (by simp)
  · exact countDown_inv hI fun _ => by rw [State.inDelay, hc]
  · exact frameEdge_inv d hI hc
  · have he := engineAtRest_of_current hI hc (by simp) (.inr (by simp))
    exact advance_inv (s := unwrap s) (unwrap_rangesOk hI.1) he hc (by simp)
  · have he := engineAtRest_of_current hI hc (by simp) (.inr (by simp))
    exact advance_inv (s := clearTracker s) (clearTracker_rangesOk hI.1) he hc (by simp)
  · exact finishEdge_inv hI.1 (engineAtRest_of_current hI hc (by simp) (.inr (by simp)))

theorem tick_inv (p : PinIn) {s : State} (hI : s.Inv) : (tick p s).Inv := by
  rcases tick_cases p s with ⟨_, h⟩ | ⟨_, hi, _, h⟩ | ⟨_, _, _, h⟩ | ⟨_, _, h⟩ <;> rw [h]
  · exact resetEdge_inv hI
  · exact acceptEdge_inv p.opw hI hi
  · exact hI
  · exact stepEdge_inv p.sdi hI

/-- The host's and the device's moves are outside the invariant. -/
theorem clock_inv {s : State} (hI : s.Inv) : (clock s).Inv := by
  have h := tick_inv s.pins hI
  unfold clock deviceMoves hostMoves
  split <;> split <;> exact h

/-- Settles O59, by the cases of one edge: reset, acceptance, waiting, and the step the sequencer is at. -/
theorem everyClockEdgeKeepsTheInvariant : Obligations.EveryClockEdgeKeepsTheInvariant := fun p _ hI => tick_inv p hI

/-- Settles O58, by the cases of one step: it waits, takes a reset, runs an instruction, or is one cycle of the clock. -/
theorem everyStepKeepsTheInvariant : Obligations.EveryStepKeepsTheInvariant := by
  intro s t hI h
  have hdrop : s.dropInput.Inv := hI
  rcases step_next h with rfl | rfl | rfl | ⟨i, hx⟩ | rfl | rfl
  · exact hI
  · exact hdrop
  · exact resetEdge_inv hdrop
  · exact exec_inv hdrop hx
  · exact clock_inv hI
  · exact clock_inv hdrop

end Sys2Proof.Machine
end

section
/-! SUPPORT. What the running block keeps: the parameters, the flags, the delivered results and the presented request. Then
the statements of the state (10_state.md) and of the handshake. -/

namespace Sys2Proof.Machine

/-! ### The parameters (rule R34) -/

theorem lastWrites_cfg (s : State) : (lastWrites s).cfg = s.cfg := by
  rcases lastWrites_cases s with h | h | h | h <;> rw [h] <;> rfl

theorem stepEdge_cfg (d : Bool) (s : State) : (stepEdge d s).cfg = s.cfg := by
  rcases stepEdge_cases d s with ⟨_, h⟩ | ⟨_, _, _, h⟩ | ⟨_, _, _, h⟩ | ⟨cmd, _, h⟩ | ⟨_, h⟩ | ⟨_, h⟩ | ⟨_, h⟩
  · rw [h]
  · rw [h]; rfl
  · rw [h]; rfl
  · rw [h]; exact (frameEdge_sameOutsideLink cmd d s).cfg
  · rw [h]; rfl
  · rw [h]; rfl
  · rw [h]; exact lastWrites_cfg s

theorem tick_cfg (p : PinIn) (s : State) : (tick p s).cfg = s.cfg := by
  rcases tick_cases p s with ⟨_, h⟩ | ⟨_, _, _, h⟩ | ⟨_, _, _, h⟩ | ⟨_, _, h⟩
  · rw [h]; rfl
  · rw [h]; rfl
  · rw [h]
  · rw [h]; exact stepEdge_cfg p.sdi s

theorem clock_cfg (s : State) : (clock s).cfg = s.cfg := by
  rw [← tick_cfg s.pins s, clock, deviceMoves, hostMoves]
  split <;> split <;> rfl

/-- Settles O43: a step waits, resets, runs an instruction or is a cycle of the clock, and none of these writes the
parameters. -/
theorem parametersNeverChange : Obligations.ParametersNeverChange := by
  intro s t h
  rcases step_next h with rfl | rfl | rfl | ⟨i, hx⟩ | rfl | rfl
  · rfl
  · rfl
  · rfl
  · rcases exec_next hx with rfl | ⟨_, rfl⟩
    · rfl
    · exact effectOf_cfg i s.dropInput
  · exact clock_cfg s
  · exact clock_cfg s.dropInput

/-! ### The flags (rule R24) -/

/-- No flag of `s` is cleared in `t`. -/
def KeepsFlags (s t : State) : Prop :=
  (s.configured = true → t.configured = true) ∧ (s.zeroed = true → t.zeroed = true) ∧ (s.illop = true → t.illop = true)

theorem keepsFlags_of_eq {s t : State} (hc : t.configured = s.configured) (hz : t.zeroed = s.zeroed)
    (ho : t.illop = s.illop) : KeepsFlags s t := by
  rw [KeepsFlags, hc, hz, ho]
  exact ⟨id, id, id⟩

theorem lastWrites_keepsFlags (s : State) : KeepsFlags s (lastWrites s) := by
  rcases lastWrites_cases s with h | h | h | h <;> rw [h] <;> simp [KeepsFlags]

theorem stepEdge_keepsFlags (d : Bool) (s : State) : KeepsFlags s (stepEdge d s) := by
  rcases stepEdge_cases d s with ⟨_, h⟩ | ⟨_, _, _, h⟩ | ⟨_, _, _, h⟩ | ⟨cmd, _, h⟩ | ⟨_, h⟩ | ⟨_, h⟩ | ⟨_, h⟩ <;> rw [h]
  · exact keepsFlags_of_eq rfl rfl rfl
  · exact keepsFlags_of_eq rfl rfl rfl
  · exact keepsFlags_of_eq rfl rfl rfl
  · have hsame := frameEdge_sameOutsideLink cmd d s
    exact keepsFlags_of_eq hsame.configured hsame.zeroed hsame.illop
  · exact keepsFlags_of_eq rfl rfl rfl
  · exact keepsFlags_of_eq rfl rfl rfl
  · exact lastWrites_keepsFlags s

/-- Settles O37: without reset an edge accepts, waits or runs a step, and the only step that writes a flag sets it. -/
theorem clockNeverClearsAFlag : Obligations.ClockNeverClearsAFlag := by
  intro p s hrst
  rcases tick_cases p s with ⟨h, _⟩ | ⟨_, _, _, h⟩ | ⟨_, _, _, h⟩ | ⟨_, _, h⟩
  · simp [hrst] at h
  · rw [h]; exact keepsFlags_of_eq rfl rfl rfl
  · rw [h]; exact keepsFlags_of_eq rfl rfl rfl
  · rw [h]; exact stepEdge_keepsFlags p.sdi s

/-- Settles O36: the effect of an instruction on each flag. -/
theorem flagsAreStickyAndSetByOneOperation : Obligations.FlagsAreStickyAndSetByOneOperation := fun i s hI hi =>
  ⟨effectOf i s, exec_idle hI hi i, effectOf_configured i s, effectOf_zeroed i s, effectOf_illop i s⟩

/-- An effect does not read the flags: with other flags before, only the flags after can differ. -/
theorem effectOf_with_flags (i : Instr) (s : State) (c z o : Bool) :
    { effectOf i { s with configured := c, zeroed := z, illop := o } with
      configured := (effectOf i s).configured, zeroed := (effectOf i s).zeroed, illop := (effectOf i s).illop } =
      effectOf i s := by
  cases i <;> rfl

/-- Settles O38: both runs are accepted, since the handshake reads no flag either. -/
theorem flagsGateNothing : Obligations.FlagsGateNothing := fun i s c z o hI hi =>
  ⟨effectOf i s, _, exec_idle hI hi i, exec_idle (s := { s with configured := c, zeroed := z, illop := o }) hI hi i,
    effectOf_with_flags i s c z o⟩

/-- The four bits of `status_o`, whatever their values. -/
theorem statusWord_bits : ∀ b i z c : Bool,
    (BitVec.ofBool b ++ BitVec.ofBool i ++ BitVec.ofBool z ++ BitVec.ofBool c).getLsbD 0 = c ∧
    (BitVec.ofBool b ++ BitVec.ofBool i ++ BitVec.ofBool z ++ BitVec.ofBool c).getLsbD 1 = z ∧
    (BitVec.ofBool b ++ BitVec.ofBool i ++ BitVec.ofBool z ++ BitVec.ofBool c).getLsbD 2 = i ∧
    (BitVec.ofBool b ++ BitVec.ofBool i ++ BitVec.ofBool z ++ BitVec.ofBool c).getLsbD 3 = b := by
  decide

theorem busy_iff (s : State) : s.busy = true ↔ s.seq.op ≠ .idle := by simp [State.busy]

/-- Settles O39: the bits of the concatenation in the order the flags stand in it. -/
theorem statusPortBits : Obligations.StatusPortBits := by
  intro r s
  obtain ⟨hc, hz, hi, hb⟩ := statusWord_bits s.busy s.illop s.zeroed s.configured
  exact ⟨hc, hz, hi, by rw [← busy_iff]; exact iff_of_eq (congrArg (· = true) hb)⟩

/-! ### Ownership and the reserved codes (rules R35, R76) -/

/-- Settles O42: the effect of an instruction on the tracker registers and on ZEROED. -/
theorem onlyTrackerOperationsWriteTheTracker : Obligations.OnlyTrackerOperationsWriteTheTracker := fun i s hI hi =>
  ⟨effectOf i s, exec_idle hI hi i, fun h => effectOf_keeps_tracker h s, fun h => effectOf_keeps_zero h s⟩

theorem recordIllegal_latch {s : State} (a : Word16) (hs : s.seq = ⟨.idle, 0⟩) :
    recordIllegal (latch a s) = { s with arg := a, illop := true, results := s.results ++ [0x0000#16] } := by
  rw [recordIllegal, deliver, ← hs]; rfl

theorem exec_keeps_illop {i : Instr} {s t : State} (hs : s.illop = true) (h : exec i s = .next t) : t.illop = true := by
  rcases exec_next h with rfl | ⟨_, rfl⟩
  · exact hs
  · exact (effectOf_illop i s).2 (.inl hs)

/-- Settles O20: an idle block of the invariant is at `(IDLE, 0)`, so the delivery leaves its sequencer as it is. -/
theorem reservedCodesSetIllop : Obligations.ReservedCodesSetIllop := by
  intro a s hI hi
  obtain ⟨_, hs, _⟩ := idle_at_rest hI hi
  have hdecode : ∀ c : BitVec 3, opCode (c ++ a) = c ∧ opArg (c ++ a) = a := fun c =>
    ⟨opCode_opwOf c a, opArg_opwOf c a⟩
  refine ⟨⟨by simp [decode, decodeOpw, hdecode], by simp [decode, decodeOpw, hdecode]⟩, ?_, ?_,
    fun i t u => exec_keeps_illop⟩
  · rw [exec_idle hI hi, ← recordIllegal_latch a hs]; rfl
  · rw [exec_idle hI hi, ← recordIllegal_latch a hs]; rfl

/-! ### The operation port (rules R26, R30, R57) -/

/-- Settles O9: the configuration is checked by `exec` as well, so the step of an idle block adds nothing to it. -/
theorem stepRunsTheDecodedInstruction : Obligations.StepRunsTheDecodedInstruction := by
  intro s w rest i hi hin hdec
  have hdrop : s.dropInput = { s with inputs := rest } := by rw [State.dropInput, hin]; rfl
  by_cases hv : s.cfg.Valid
  · rw [step_idle hv hi, idleStep, hin, ← hdrop]
    simp only [runWord, hdec]
  · rw [step_of_not_valid hv, exec_of_not_valid (s := { s with inputs := rest }) hv]

theorem opReady_iff (r : Bool) (s : State) : (outputs r s).opReady = true ↔ s.seq.op = .idle ∧ r = false := by
  simp [outputs, State.busy, and_comm]

theorem tick_accept {s : State} (hi : s.Idle) (w : OpWord) (d : Bool) : tick ⟨false, true, w, d⟩ s = acceptEdge w s := by
  simp [tick, hi]

theorem tick_wait {s : State} (hi : s.Idle) (w : OpWord) (d : Bool) : tick ⟨false, false, w, d⟩ s = s := by
  simp [tick, hi]

theorem tick_busy {p : PinIn} {s : State} (hr : p.rst = false) (hi : ¬ s.Idle) : tick p s = stepEdge p.sdi s := by
  simp [tick, hr, hi]

/-- Settles O47: `tick` by its cases, accepting, waiting and busy; the busy case looks at `sdi` alone. -/
theorem handshakeOfTheOperationPort : Obligations.HandshakeOfTheOperationPort := by
  refine ⟨opReady_iff, fun w d s hi => ⟨rfl, ?_, ?_, tick_wait hi w d⟩, fun v v' d w w' s hi => ?_⟩
  · rw [tick_accept hi]; rfl
  · rw [tick_accept hi]; rfl
  · rw [tick_busy rfl hi, tick_busy rfl hi]

theorem opOfCode_ne_idle (code : BitVec 3) : opOfCode code ≠ .idle := by
  fun_cases opOfCode code <;> simp

/-- An accepted word leaves the host's list, and no frame closes in that cycle. -/
theorem clock_accept {s : State} {w : OpWord} {rest : List Input} (hi : s.Idle) (hin : s.inputs = .edge w :: rest) :
    clock s = { acceptEdge w s with inputs := rest } := by
  have hp : s.presented = some w := by rw [State.presented, hin]
  have hpins : s.pins = ⟨false, true, w, s.deviceBit⟩ := by rw [State.pins, hp]; rfl
  rw [clock, hpins, tick_accept hi, hostMoves, if_pos ⟨hi, by rw [hp]; rfl⟩, hin, deviceMoves,
    if_neg fun h => h.1 hi]
  rfl

/-- Settles O54: the step is one cycle of the clock, and that cycle is the accepting edge. -/
theorem acceptingEdgeIsOneStep : Obligations.AcceptingEdgeIsOneStep := by
  intro s w rest hI ht hi hin
  have hstep : step s = .next (clock s) := by
    rw [step_idle hI.1.1 hi, idleStep, hin]
    exact (if_pos hI.1.1).trans (if_pos ht)
  refine ⟨_, hstep.trans (congrArg _ (clock_accept hi hin)), rfl, rfl, rfl, ?_, rfl, rfl, rfl, rfl, rfl, rfl⟩
  rw [Bool.eq_false_iff, ne_eq, opReady_iff]
  exact fun h => opOfCode_ne_idle _ h.1

/-- A busy block's cycle reads the host's list nowhere, so it returns the list it was given. -/
theorem clock_busy_keeps_inputs {s : State} (hi : ¬ s.Idle) : (clock s).inputs = s.inputs := by
  have h : clock s = { clock s with inputs := s.inputs } := clock_busy_inputs hi s.inputs
  exact (congrArg State.inputs h).trans rfl

theorem clockStep_busy {s : State} (hI : s.Inv) (ht : s.cfg.Timed) (hi : ¬ s.Idle) : clockStep s = .next (clock s) := by
  obtain ⟨⟨hv, _⟩, ⟨_, hcur, _⟩, _⟩ := hI
  rcases clockStep_cases s with ⟨h, _⟩ | ⟨_, h, _⟩ | ⟨_, _, h, _⟩ | ⟨_, _, _, h⟩
  · exact absurd hv h
  · exact absurd ht h
  · exact absurd h (hcur hi)
  · exact h

/-- Settles O12: a busy block's step is a cycle of the clock, which does not look at what the host does next. -/
theorem busyBlockHoldsTheRequest : Obligations.BusyBlockHoldsTheRequest := by
  intro s hI ht hi
  have hclock := clockStep_busy hI ht hi
  have hkeep := clock_busy_keeps_inputs hi
  have hstep : step s = busyStep s := step_busy hI.1.1 hi
  refine ⟨fun a rest ha hin => ⟨?_, hkeep.trans hin⟩, fun hin => ⟨?_, hkeep.trans hin⟩, fun rest hin => ?_,
    exec_busy hI hi⟩
  · rcases ha with ⟨w, rfl⟩ | ⟨w, rfl⟩ <;> rw [hstep, busyStep, hin] <;> exact hclock
  · rw [hstep, busyStep, hin]; exact hclock
  · have hdrop : s.dropInput = { s with inputs := rest } := by rw [State.dropInput, hin]; rfl
    rw [hstep, busyStep, hin, ← clock_busy_inputs hi rest, ← hdrop]
    exact clockStep_busy (s := s.dropInput) hI ht hi

/-! ### The result port (rule R31) -/

theorem resValid_iff (s : State) : (outputs false s).resValid = true ↔ s.current = some .finish := by
  simpa [outputs, State.finishing] using not_idle_of_current

theorem resData_eq (s : State) :
    (outputs false s).resData = if (outputs false s).resValid then s.resultWord else 0x0000#16 := by
  simp [outputs]

/-- Every step but the last leaves the delivered words as they are. -/
theorem stepEdge_results (d : Bool) {s : State} (hf : s.current ≠ some .finish) : (stepEdge d s).results = s.results := by
  rcases stepEdge_cases d s with ⟨_, h⟩ | ⟨_, _, _, h⟩ | ⟨_, _, _, h⟩ | ⟨cmd, _, h⟩ | ⟨_, h⟩ | ⟨_, h⟩ | ⟨hc, _⟩
  · rw [h]
  · rw [h]; rfl
  · rw [h]; rfl
  · rw [h]; exact (frameEdge_sameOutsideLink cmd d s).results
  · rw [h]; rfl
  · rw [h]; rfl
  · exact absurd hc hf

theorem tick_results {p : PinIn} {s : State} (hf : s.current ≠ some .finish) : (tick p s).results = s.results := by
  rcases tick_cases p s with ⟨_, h⟩ | ⟨_, _, _, h⟩ | ⟨_, _, _, h⟩ | ⟨_, _, h⟩
  · rw [h]; rfl
  · rw [h]; rfl
  · rw [h]
  · rw [h]; exact stepEdge_results p.sdi hf

theorem tick_finish {p : PinIn} {s : State} (hr : p.rst = false) (hf : s.current = some .finish) :
    tick p s = deliver s.resultWord (lastWrites s) := by
  rw [tick_busy hr (not_idle_of_current hf), stepEdge, hf, finishEdge]

theorem lastWrites_results (s : State) : (lastWrites s).results = s.results := by
  rcases lastWrites_cases s with h | h | h | h <;> rw [h] <;> rfl

/-- Settles O48: only the last step of a list shows and delivers a result, and it returns the sequencer to idle. -/
theorem resultPulseLastsOneCycle : Obligations.ResultPulseLastsOneCycle := by
  intro p s _ hr
  refine ⟨resValid_iff s, fun hv => ?_, fun hv => ?_⟩
  · rw [resData_eq, if_pos hv, tick_finish hr ((resValid_iff s).1 hv), deliver_results, lastWrites_results]
    exact ⟨rfl, rfl, rfl⟩
  · have hf : s.current ≠ some .finish := fun hf => absurd ((resValid_iff s).2 hf) (by simp [hv])
    exact ⟨by rw [resData_eq, hv]; rfl, tick_results hf⟩

/-! ### Reset, step lists and observation ports (rules R26, R32, R33, R39) -/

theorem mechCode_resetOf (c : Config) : (State.resetOf c).mechCode = 0 := by
  simp [State.mechCode, State.resetOf, signedOf, modulo]

/-- Settles O2: the reset values read off `State.resetOf`, and the angle codes of a cleared tracker. -/
theorem powerUpStateIsReset : Obligations.PowerUpStateIsReset := by
  refine ⟨by simp [State.reset, State.resetOf], fun c _ => ⟨mechCode_resetOf c, ?_, ?_⟩⟩
  · simp [State.elecCode, mechCode_resetOf]
  · simp [State.status, State.busy, State.resetOf]

/-- Settles O57: a reset leaves the tracker at 0, the sequencer idle and the engine at rest. -/
theorem resetMeetsTheInvariant : Obligations.ResetMeetsTheInvariant :=
  ⟨resetOf_inv Tests.test_standard_valid, fun _ h => resetOf_inv h⟩

/-- Settles O46: the lists read off step by step, and none goes beyond its twelfth entry. -/
theorem stepListsAreTheRules : Obligations.StepListsAreTheRules := by
  intro c a
  refine ⟨rfl, rfl, ?_, rfl, rfl, fun _ => rfl, fun op n h => stepAction_of_le c a op h⟩
  intro op hop
  simp only [List.mem_cons, List.not_mem_nil, or_false] at hop
  rcases hop with rfl | rfl | rfl <;> rfl

/-- Settles O49: the ports are the registers by definition; `sdo` is gated by the chip select. -/
theorem observationPortsShowTheRegisters : Obligations.ObservationPortsShowTheRegisters := by
  refine ⟨fun r s => ⟨rfl, rfl, rfl, rfl, rfl, rfl, rfl⟩, fun s => ⟨rfl, rfl, ?_⟩⟩
  cases h : s.csN <;> simp [outputs, h]

end Sys2Proof.Machine
end

section
/-! SUPPORT. The frames of an instruction, the events it emits, and runs of several instructions (20_memory.md rules R50,
R55). -/

namespace Sys2Proof.Machine

/-! ### Frames and response words (rules R50, R99) -/

theorem effectOf_frames (i : Instr) (s : State) : (effectOf i s).frames = s.frames + frameCount i := by
  cases i <;> simp [effectOf, frameCount, takeSample, configWrite, recordIllegal]

theorem effectOf_script (i : Instr) (s : State) : (effectOf i s).script = s.script.drop (frameCount i) := by
  cases i <;> simp [effectOf, frameCount, takeSample, configWrite, recordIllegal, ← List.drop_one]

theorem effectOf_idle (i : Instr) {s : State} (hI : s.Inv) (hi : s.Idle) : (effectOf i s).Idle := by
  obtain ⟨_, hs, _⟩ := idle_at_rest hI hi
  rw [State.Idle, effectOf_seq i hs]

/-- Settles O44: an idle block runs the instruction's effect, and every frame in it counts one and takes one word. -/
theorem framesAndResponseWordsAreCounted : Obligations.FramesAndResponseWordsAreCounted := fun i s hI hi =>
  ⟨effectOf i s, exec_idle hI hi i, effectOf_frames i s, effectOf_script i s, effectOf_idle i hI hi⟩

/-! ### Events are only appended (rule R55) -/

/-- `f` appends events that do not depend on the earlier ones, and reads the trace for nothing else either. -/
def OnlyAppends (f : State → State) : Prop :=
  ∃ events : State → List LinkEvent,
    ∀ (s : State) (tr : List LinkEvent), f { s with trace := tr } = { f s with trace := tr ++ events s }

theorem OnlyAppends.comp {f g : State → State} (hg : OnlyAppends g) (hf : OnlyAppends f) :
    OnlyAppends (fun s => g (f s)) := by
  obtain ⟨eg, hg⟩ := hg
  obtain ⟨ef, hf⟩ := hf
  refine ⟨fun s => ef s ++ eg (f s), fun s tr => ?_⟩
  calc g (f { s with trace := tr })
      _ = g { f s with trace := tr ++ ef s } := congrArg g (hf s tr)
      _ = { g (f s) with trace := tr ++ ef s ++ eg (f s) } := hg (f s) (tr ++ ef s)
      _ = { g (f s) with trace := tr ++ (ef s ++ eg (f s)) } := by rw [List.append_assoc]

/-- A function that neither reads nor writes the trace appends nothing. -/
theorem onlyAppends_of_silent {f : State → State}
    (h : ∀ (s : State) (tr : List LinkEvent), f { s with trace := tr } = { f s with trace := tr }) : OnlyAppends f :=
  ⟨fun _ => [], fun s tr => by rw [h, List.append_nil]⟩

theorem onlyAppends_latch (a : Word16) : OnlyAppends (latch a) := onlyAppends_of_silent fun _ _ => rfl

theorem onlyAppends_exchange (cmd : Word16) : OnlyAppends (exchange cmd) := ⟨_, exchange_trace_irrelevant cmd⟩

/-- A delay of a time the configuration sets. -/
theorem onlyAppends_pause (time : Config → Nat) : OnlyAppends fun s => pause (time s.cfg) s :=
  ⟨fun s => [.dly (time s.cfg)], fun _ _ => rfl⟩

theorem onlyAppends_configWrite (cmd : Word16) : OnlyAppends (configWrite cmd) :=
  (onlyAppends_pause Config.tCfg).comp (onlyAppends_exchange cmd)

theorem onlyAppends_takeSample : OnlyAppends takeSample :=
  (onlyAppends_of_silent (f := unwrap) fun _ _ => rfl).comp (onlyAppends_exchange wordAngleRead)

/-- The last step of an instruction, its delivery and the writes beside it, is silent on the link; what stands before it
is a chain of frames, delays and silent writes. -/
theorem onlyAppends_effectOf (i : Instr) : OnlyAppends (effectOf i) := by
  cases i with
  | rdreg a =>
    have hlast : OnlyAppends fun s => deliver s.rxdata s := onlyAppends_of_silent fun _ _ => rfl
    exact hlast.comp ((onlyAppends_exchange a).comp (onlyAppends_latch a))
  | config a =>
    have hlast : OnlyAppends fun s => deliver 0x0000#16 s.setConfigured := onlyAppends_of_silent fun _ _ => rfl
    have hwrites := (onlyAppends_configWrite wordZeroPulseWidth).comp ((onlyAppends_configWrite wordZeroHigh).comp
      ((onlyAppends_configWrite wordPolarityZeroLow).comp (onlyAppends_configWrite wordIoCurrentConfig)))
    have hpower := (onlyAppends_pause Config.tPwron).comp (onlyAppends_latch a)
    exact hlast.comp ((onlyAppends_exchange wordAngleRead).comp (hwrites.comp hpower))
  | sample a | mech a =>
    have hlast : OnlyAppends fun s => deliver (zext16 s.mechCode) s := onlyAppends_of_silent fun _ _ => rfl
    exact hlast.comp (onlyAppends_takeSample.comp (onlyAppends_latch a))
  | elec a =>
    have hlast : OnlyAppends fun s => deliver (zext16 s.elecCode) s := onlyAppends_of_silent fun _ _ => rfl
    exact hlast.comp (onlyAppends_takeSample.comp (onlyAppends_latch a))
  | zero a =>
    have hlast : OnlyAppends fun s => deliver (zext16 s.mechCode) (storeZero s) := onlyAppends_of_silent fun _ _ => rfl
    have hclear : OnlyAppends clearTracker := onlyAppends_of_silent fun _ _ => rfl
    exact hlast.comp (onlyAppends_takeSample.comp (hclear.comp (onlyAppends_latch a)))
  | reserved6 a | reserved7 a => exact onlyAppends_of_silent fun _ _ => rfl
  | cmdIoCurrentConfig | cmdPolarityZeroLow | cmdZeroHigh | cmdZeroPulseWidth | cmdAngleRead =>
    exact onlyAppends_exchange _

/-! ### Runs of instructions -/

/-- The effects of instructions one after the other. -/
def effectsOf : List Instr → State → State
  | [], s => s
  | i :: is, s => effectsOf is (effectOf i s)

theorem effectsOf_append (is js : List Instr) (s : State) : effectsOf (is ++ js) s = effectsOf js (effectsOf is s) := by
  induction is generalizing s with
  | nil => rfl
  | cons i is ih => exact ih (effectOf i s)

/-- An idle block of the invariant runs instructions to their end, and is such a block again. -/
theorem runInstrs_idle (is : List Instr) {s : State} (hI : s.Inv) (hi : s.Idle) :
    runInstrs is s = .next (effectsOf is s) ∧ (effectsOf is s).Inv ∧ (effectsOf is s).Idle := by
  induction is generalizing s with
  | nil => exact ⟨rfl, hI, hi⟩
  | cons i is ih =>
    rw [runInstrs, exec_idle hI hi]
    exact ih (effectOf_inv i hI hi) (effectOf_idle i hI hi)

theorem onlyAppends_effectsOf (is : List Instr) : OnlyAppends (effectsOf is) := by
  induction is with
  | nil => exact onlyAppends_of_silent fun _ _ => rfl
  | cons i is ih => exact ih.comp (onlyAppends_effectOf i)

/-- Settles O45: a run only appends events, so a run from an emptied trace records exactly what it appends. -/
theorem traceIsTheConcatenation : Obligations.TraceIsTheConcatenation := by
  intro is js s hI hi
  obtain ⟨hrun, hI', hi'⟩ := runInstrs_idle is hI hi
  obtain ⟨ei, hei⟩ := onlyAppends_effectsOf is
  obtain ⟨ej, hej⟩ := onlyAppends_effectsOf js
  have hti : (effectsOf is s).trace = s.trace ++ ei s := congrArg State.trace (hei s s.trace)
  have htj : (effectsOf js (effectsOf is s)).trace = (effectsOf is s).trace ++ ej (effectsOf is s) :=
    congrArg State.trace (hej (effectsOf is s) (effectsOf is s).trace)
  refine ⟨effectsOf is s, effectsOf js (effectsOf is s), ei s, ej (effectsOf is s), hrun, ?_, ?_, ?_, hti, ?_⟩
  · rw [(runInstrs_idle (is ++ js) hI hi).1, effectsOf_append]
  · rw [(runInstrs_idle is (s := { s with trace := [] }) hI hi).1, hei, List.nil_append]
  · rw [(runInstrs_idle js (s := { effectsOf is s with trace := [] }) hI' hi').1, hej, List.nil_append]
  · rw [htj, hti]

end Sys2Proof.Machine
end

section
/-! SUPPORT. The encoder and the decoder are inverse (30_encoding.md rules R71, R72, R74), from which the rows of the
operation codes and the matched command words follow; and what a bare command word does to an idle block (rules R75, R77). -/

namespace Sys2Proof

/-! ### Round trip (rules R71, R72, R74) -/

/-- Settles O4: the two fields of an operation word read back what was written, and the five command words differ. -/
theorem decodeEncodeRoundTrip : Obligations.DecodeEncodeRoundTrip := by
  intro i
  cases i with
  | rdreg a | config a | sample a | mech a | elec a | zero a | reserved6 a | reserved7 a =>
    simp [decode, encode, decodeOpw, opCode_opwOf, opArg_opwOf]
  | cmdIoCurrentConfig | cmdPolarityZeroLow | cmdZeroHigh | cmdZeroPulseWidth | cmdAngleRead => rfl

/-- The two fields make up the whole word. -/
theorem opwOf_opCode_opArg (w : OpWord) : opwOf (opCode w) (opArg w) = w := by
  apply BitVec.eq_of_getLsbD_eq
  intro j hj
  rw [opwOf_getLsbD]
  split
  · simp [opArg, *]
  · have hcode : j - 16 < 3 := by omega
    have hpos : 16 + (j - 16) = j := by omega
    simp [opCode, hcode, hpos]

/-- The code the decoder's last branch stands for. -/
theorem code_eq_seven_of_ne {c : BitVec 3} (h0 : c ≠ 0#3) (h1 : c ≠ 1#3) (h2 : c ≠ 2#3) (h3 : c ≠ 3#3) (h4 : c ≠ 4#3)
    (h5 : c ≠ 5#3) (h6 : c ≠ 6#3) : c = 7#3 := by
  bv_omega

/-- Each branch of the decoder has found the code the encoder writes. -/
theorem encode_decodeOpw (w : OpWord) : encode (decodeOpw w) = .opw w := by
  have hword {c : BitVec 3} (h : opCode w = c) : InWord.opw (opwOf c (opArg w)) = .opw w := by
    rw [← h, opwOf_opCode_opArg]
  unfold decodeOpw
  split_ifs with h0 h1 h2 h3 h4 h5 h6
  · exact hword h0
  · exact hword h1
  · exact hword h2
  · exact hword h3
  · exact hword h4
  · exact hword h5
  · exact hword h6
  · exact hword (code_eq_seven_of_ne h0 h1 h2 h3 h4 h5 h6)

theorem encode_of_decodeCmd16 {w : Word16} {i : Instr} (h : decodeCmd16 w = .ok i) : encode i = .cmd16 w := by
  unfold decodeCmd16 at h
  split_ifs at h with hw hw hw hw hw <;>
    (cases h; exact congrArg InWord.cmd16 hw.symm)

/-- Settles O5: by format, every operation word decodes and a command word only by being one of the five. -/
theorem encodeDecodeRoundTrip : Obligations.EncodeDecodeRoundTrip := by
  intro w i h
  cases w with
  | opw w =>
    cases h
    exact encode_decodeOpw w
  | cmd16 w => exact encode_of_decodeCmd16 h

/-- The two round trips in one: a word decodes to the instruction it encodes and to no other. -/
theorem decode_eq_ok_iff (w : InWord) (i : Instr) : decode w = .ok i ↔ encode i = w :=
  ⟨encodeDecodeRoundTrip w i, fun h => h ▸ decodeEncodeRoundTrip i⟩

/-! ### The rows of the operation codes (rule R72) -/

theorem opArg_eq_setWidth (w : OpWord) : opArg w = w.setWidth 16 := BitVec.setWidth_eq_extractLsb' (by decide) |>.symm

/-- The mask of rule R72 keeps the operation code and clears the operand. -/
theorem and_codeMask (w : OpWord) : w &&& 0x70000#19 = opwOf (opCode w) 0x0000#16 := by
  have hmask : ∀ j < 19, (0x70000#19).getLsbD j = decide (16 ≤ j) := by decide
  apply BitVec.eq_of_getLsbD_eq
  intro j hj
  rw [BitVec.getLsbD_and, hmask j hj]
  conv_lhs => rw [← opwOf_opCode_opArg w]
  rw [opwOf_getLsbD, opwOf_getLsbD]
  by_cases h : j < 16
  · simp [h]
  · simp [h, Nat.le_of_not_lt h]

/-- A row's match word is its operation code with no operand bit; a word meets it exactly when it is that code with the
word's own operand. -/
theorem codeMask_eq_iff (w : OpWord) (c : BitVec 3) :
    w &&& 0x70000#19 = opwOf c 0x0000#16 ↔ InWord.opw (opwOf c (w.setWidth 16)) = .opw w := by
  rw [and_codeMask, ← opArg_eq_setWidth, InWord.opw.injEq]
  constructor
  · intro h
    have hcode : opCode w = c := by rw [← opCode_opwOf (opCode w) 0x0000#16, h, opCode_opwOf]
    rw [← hcode, opwOf_opCode_opArg]
  · intro h
    rw [← h, opCode_opwOf]

/-- Settles O6: a row is met by the words the encoder writes for its instruction. -/
theorem operationRowsMatchMask : Obligations.OperationRowsMatchMask := by
  intro w
  simp only [decode_eq_ok_iff]
  exact ⟨codeMask_eq_iff w 0#3, codeMask_eq_iff w 1#3, codeMask_eq_iff w 2#3, codeMask_eq_iff w 3#3,
    codeMask_eq_iff w 4#3, codeMask_eq_iff w 5#3, codeMask_eq_iff w 6#3, codeMask_eq_iff w 7#3⟩

/-! ### Command words (rules R74, R77) -/

theorem decode_cmd16_eq_ok_iff {i : Instr} {c : Word16} (h : encode i = .cmd16 c) (w : Word16) :
    decode (.cmd16 w) = .ok i ↔ w = c := by
  rw [decode_eq_ok_iff, h, InWord.cmd16.injEq, eq_comm]

/-- The five command words of rule R74. -/
def commandWords : List Word16 :=
  [wordIoCurrentConfig, wordPolarityZeroLow, wordZeroHigh, wordZeroPulseWidth, wordAngleRead]

theorem mem_commandWords (w : Word16) : w ∈ commandWords ↔ w = wordIoCurrentConfig ∨ w = wordPolarityZeroLow ∨
    w = wordZeroHigh ∨ w = wordZeroPulseWidth ∨ w = wordAngleRead := by
  simp [commandWords]

theorem decode_cmd16_of_mem {w : Word16} (h : w ∈ commandWords) : ∃ i, decode (.cmd16 w) = .ok i := by
  rcases (mem_commandWords w).1 h with rfl | rfl | rfl | rfl | rfl <;> exact ⟨_, rfl⟩

theorem decode_cmd16_of_not_mem {w : Word16} (h : w ∉ commandWords) :
    decode (.cmd16 w) = .error (.unlistedCommand w) := by
  simp only [mem_commandWords, not_or] at h
  obtain ⟨h1, h2, h3, h4, h5⟩ := h
  rw [decode, decodeCmd16, if_neg h1, if_neg h2, if_neg h3, if_neg h4, if_neg h5]

theorem decode_cmd16_eq_error_iff (w : Word16) :
    decode (.cmd16 w) = .error (.unlistedCommand w) ↔ w ∉ commandWords := by
  refine ⟨fun herr hmem => ?_, decode_cmd16_of_not_mem⟩
  obtain ⟨i, hok⟩ := decode_cmd16_of_mem hmem
  rw [hok] at herr
  cases herr

/-- Settles O7: a word decodes to a command exactly when the encoder writes it, and fails outside the five. -/
theorem commandWordsMatchAllBits : Obligations.CommandWordsMatchAllBits := fun w =>
  ⟨decode_cmd16_eq_ok_iff rfl w, decode_cmd16_eq_ok_iff rfl w, decode_cmd16_eq_ok_iff rfl w,
    decode_cmd16_eq_ok_iff rfl w, decode_cmd16_eq_ok_iff rfl w, decode_cmd16_eq_error_iff w⟩

/-- Settles O8: twelve closed words, each evaluated. -/
theorem writtenOutWordsDecode : Obligations.WrittenOutWordsDecode := by
  refine ⟨?_, ?_, ?_, ?_, ?_, ?_, ?_, ?_, ?_, ?_, ?_, ?_⟩ <;> decide

end Sys2Proof

namespace Sys2Proof.Machine

/-! ### Bare command words (rules R75, R77, R90) -/

/-- Settles O10: the idle block's step decodes the presented word, which fails. -/
theorem unlistedBareCommandIsRefused : Obligations.UnlistedBareCommandIsRefused := by
  intro s w rest hv hi hin hw
  rw [step_idle hv hi, idleStep, hin]
  simp only [runWord, decode_cmd16_of_not_mem hw]

/-- A frame made by an engine at rest leaves the pins, the phase and the counters as they were (rules R90, R91). -/
theorem exchange_of_engineAtRest {s : State} (h : s.EngineAtRest) (cmd : Word16) :
    exchange cmd s = { s with
      rxdata := s.response, rxsr := s.response, txsr := sentOut s.cfg cmd, script := s.script.tail,
      frames := s.frames + 1, trace := s.trace ++ [.frm cmd s.response] } := by
  obtain ⟨hph, hcs, hsck, hbit, hdly⟩ := h
  rw [exchange, ← hph, ← hcs, ← hsck, ← hbit, ← hdly]
  rfl

/-- Settles O21: the effect of a command word is the frame that carries it, made by an engine at rest. -/
theorem commandWordsAreFrames : Obligations.CommandWordsAreFrames := by
  intro i c s hI hi hmem
  rw [← exchange_of_engineAtRest (engineAtRest_of_idle hI hi) c, exec_idle hI hi]
  simp only [List.mem_cons, List.not_mem_nil, or_false, Prod.mk.injEq] at hmem
  rcases hmem with ⟨rfl, rfl⟩ | ⟨rfl, rfl⟩ | ⟨rfl, rfl⟩ | ⟨rfl, rfl⟩ | ⟨rfl, rfl⟩ <;> rfl

end Sys2Proof.Machine
end

section
/-! SUPPORT. What an operation does not read: the operand, but in RDREG (30_encoding.md rule R73), and the low bits of a
response word (rule R78, 41_unwrap_tracker.md rule R110). -/

namespace Sys2Proof.Machine

/-! ### The operand (rule R73) -/

/-- Settles O40: the latched operand is kept to the end of the step list, and no step of these lists reads it. -/
theorem operandIsIgnoredButByRdreg : Obligations.OperandIsIgnoredButByRdreg := by
  intro mk a b s hI hi hmk
  refine ⟨effectOf (mk a) s, exec_idle hI hi _, ?_⟩
  rw [exec_idle hI hi]
  simp only [List.mem_cons, List.not_mem_nil, or_false] at hmk
  rcases hmk with rfl | rfl | rfl | rfl | rfl | rfl | rfl <;> exact ⟨rfl, rfl⟩

/-! ### The discarded bits of a response word (rules R78, R110) -/

/-- The tracker reads a response word through its raw sample alone. -/
theorem takeSample_of_rawOf_eq {s : State} {r r' : Word16} (h : rawOf s.cfg r = rawOf s.cfg r') (rs : List Word16) :
    takeSample { s with script := r' :: rs } =
      { takeSample { s with script := r :: rs } with
        rxdata := r', rxsr := r', trace := s.trace ++ [.frm wordAngleRead r'] } := by
  simp [takeSample, unwrap, exchange, State.answered, State.response, h]

/-- Settles O41: each of the four takes its sample from the latched, and for ZERO cleared, state; its result and its last
writes read the tracker alone. -/
theorem discardedBitsAffectNothing : Obligations.DiscardedBitsAffectNothing := by
  intro mk a r r' rs s hI hi hmk hraw
  have hexec (q : Word16) :
      exec (mk a) { s with script := q :: rs } = .next (effectOf (mk a) { s with script := q :: rs }) :=
    exec_idle (s := { s with script := q :: rs }) hI hi _
  refine ⟨_, hexec r, (hexec r').trans (congrArg Host.Outcome.next ?_)⟩
  have hlatched := takeSample_of_rawOf_eq (s := latch a s) hraw rs
  have hcleared := takeSample_of_rawOf_eq (s := clearTracker (latch a s)) hraw rs
  simp only [List.mem_cons, List.not_mem_nil, or_false] at hmk
  rcases hmk with rfl | rfl | rfl | rfl
  · exact congrArg (fun t => deliver (zext16 t.mechCode) t) hlatched
  · exact congrArg (fun t => deliver (zext16 t.mechCode) t) hlatched
  · exact congrArg (fun t => deliver (zext16 t.elecCode) t) hlatched
  · exact congrArg (fun t => deliver (zext16 t.mechCode) (storeZero t)) hcleared

end Sys2Proof.Machine
end

section
/-! SUPPORT. Runs of a busy block cycle by cycle (10_state.md rules R26, R28): chains of cycles, what one cycle of each
kind of step does, and the count of `DLY` down to 0. -/

namespace Sys2Proof.Machine

/-! ### Chains of busy cycles -/

/-- `n` cycles lead from `s` to `t`, and the block is busy in each of them; `t` itself may be idle. -/
inductive BusyRun : Nat → State → State → Prop
  | refl (s : State) : BusyRun 0 s s
  | cycle {n : Nat} {s t : State} (hbusy : ¬ s.Idle) (hrest : BusyRun n (clock s) t) : BusyRun (n + 1) s t

theorem BusyRun.one {s : State} (h : ¬ s.Idle) : BusyRun 1 s (clock s) := .cycle h (.refl _)

theorem BusyRun.trans {m n : Nat} {s t u : State} (h : BusyRun m s t) (h' : BusyRun n t u) : BusyRun (m + n) s u := by
  induction h with
  | refl s => simpa using h'
  | @cycle m s t hbusy _ ih => rw [Nat.add_right_comm]; exact .cycle hbusy (ih h')

theorem BusyRun.clockRun_eq {n : Nat} {s t : State} (h : BusyRun n s t) : clockRun n s = t := by
  induction h with
  | refl s => rfl
  | cycle _ _ ih => exact ih

theorem BusyRun.busy {n k : Nat} {s t : State} (h : BusyRun n s t) (hk : k < n) : ¬ (clockRun k s).Idle := by
  induction h generalizing k with
  | refl s => omega
  | cycle hbusy _ ih =>
    cases k with
    | zero => exact hbusy
    | succ k => exact ih (by omega)

/-! ### One cycle, by the step in progress -/

theorem inFrame_iff (s : State) : s.inFrame = true ↔ ∃ cmd, s.current = some (.frame cmd) := by
  rw [State.inFrame]
  split <;> simp_all

theorem inDelay_iff (s : State) : s.inDelay = true ↔ ∃ t, s.current = some (.delay t) := by
  rw [State.inDelay]
  split <;> simp_all

/-- Only a frame step in phase HOLD moves the device on. -/
theorem clock_busy_of_ph_ne_hold {s : State} (hi : ¬ s.Idle) (hp : s.ph ≠ .hold) : clock s = stepEdge s.deviceBit s := by
  rw [clock_busy hi, deviceMoves, if_neg fun ⟨_, _, hhold, _⟩ => hp hhold]

/-- A cycle of a step that is no frame. -/
theorem clock_of_not_inFrame {s : State} {a : Action} (hc : s.current = some a) (hf : s.inFrame = false) :
    clock s = stepEdge s.deviceBit s := by
  rw [clock_busy (not_idle_of_current hc), deviceMoves,
    if_neg fun ⟨_, hframe, _⟩ => Bool.false_ne_true (hf.symm.trans hframe)]

theorem stepEdge_frame {s : State} {cmd : Word16} (hc : s.current = some (.frame cmd)) (d : Bool) :
    stepEdge d s = frameEdge cmd d s := by
  rw [stepEdge, hc]

/-- A cycle of a frame step that does not close the frame. -/
theorem clock_frame {s : State} {cmd : Word16} (hc : s.current = some (.frame cmd)) (hp : s.ph ≠ .hold) :
    clock s = frameEdge cmd s.deviceBit s := by
  rw [clock_busy_of_ph_ne_hold (not_idle_of_current hc) hp, stepEdge_frame hc]

/-- The cycle that closes a frame: the device then moves to its next word. -/
theorem clock_close {s : State} {cmd : Word16} (hc : s.current = some (.frame cmd)) (hp : s.ph = .hold)
    (hd : s.dly = 0#32) : clock s = (closeFrame cmd s).answered := by
  have hi := not_idle_of_current hc
  rw [clock_busy hi, deviceMoves, if_pos ⟨hi, (inFrame_iff s).2 ⟨cmd, hc⟩, hp, hd⟩, stepEdge_frame hc]
  simp [frameEdge, hp, hd]

theorem clock_delay_end {s : State} {t : Nat} (hc : s.current = some (.delay t)) (hd : s.dly = 0#32) :
    clock s = advance { s with trace := s.trace ++ [.dly t] } := by
  rw [clock_of_not_inFrame hc (by rw [State.inFrame, hc]), stepEdge, hc]
  exact if_pos hd

/-! ### Counting down (rules R28, R91, R92, R97) -/

/-- The step waits on `DLY`: a delay step, or an open frame that still has edges of `sck` to make or is in another
phase. The value of `DLY` is no part of it. -/
def State.Counting (s : State) : Prop :=
  s.inDelay = true ∨
    (s.inFrame = true ∧ s.ph ≠ .idle ∧ (s.ph = .shift → ¬ (s.bitcnt = 0#5 ∧ s.sck = s.cfg.cpol)))

theorem State.Counting.busy {s : State} (h : s.Counting) : ¬ s.Idle := by
  rcases h with h | ⟨h, _⟩
  · obtain ⟨t, hc⟩ := (inDelay_iff s).1 h
    exact not_idle_of_current hc
  · obtain ⟨cmd, hc⟩ := (inFrame_iff s).1 h
    exact not_idle_of_current hc

theorem counting_of_frame {s : State} {cmd : Word16} (hc : s.current = some (.frame cmd)) (hi : s.ph ≠ .idle)
    (hs : s.ph ≠ .shift) : s.Counting :=
  .inr ⟨(inFrame_iff s).2 ⟨cmd, hc⟩, hi, fun h => absurd h hs⟩

theorem counting_of_delay {s : State} {t : Nat} (hc : s.current = some (.delay t)) : s.Counting :=
  .inl ((inDelay_iff s).2 ⟨t, hc⟩)

theorem clock_counting {s : State} (h : s.Counting) (hd : s.dly ≠ 0#32) : clock s = countDown s := by
  rw [clock_busy h.busy, deviceMoves, if_neg fun ⟨_, _, _, hzero⟩ => hd hzero]
  rcases h with h | ⟨h, hp, hmore⟩
  · obtain ⟨t, hc⟩ := (inDelay_iff s).1 h
    rw [stepEdge, hc]
    exact if_neg hd
  · obtain ⟨cmd, hc⟩ := (inFrame_iff s).1 h
    rw [stepEdge_frame hc]
    cases hph : s.ph with
    | idle => exact absurd hph hp
    | shift => simp [frameEdge, hph, hd, hmore hph]
    | setup | hold | gap => simp [frameEdge, hph, hd]

/-- A counting step moves nothing but `DLY`, as long as it lasts. -/
theorem BusyRun.counting {n : Nat} {s : State} (h : s.Counting) (hn : n ≤ s.dly.toNat) :
    BusyRun n s { s with dly := s.dly - BitVec.ofNat 32 n } := by
  induction n generalizing s with
  | zero => simpa using BusyRun.refl s
  | succ n ih =>
    have hd : s.dly ≠ 0#32 := by rintro hd; simp [hd] at hn
    have hle : n ≤ (countDown s).dly.toNat := by rw [countDown_dly]; bv_omega
    have hdly : s.dly - BitVec.ofNat 32 (n + 1) = (countDown s).dly - BitVec.ofNat 32 n := by
      rw [countDown_dly]; bv_omega
    refine .cycle h.busy ?_
    rw [clock_counting h hd, hdly]
    exact ih (s := countDown s) h hle

/-- A counting step shows 0 for one cycle, and that cycle is its last. -/
theorem BusyRun.countedOut {s : State} (h : s.Counting) :
    BusyRun (s.dly.toNat + 1) s (clock { s with dly := 0#32 }) := by
  have hrun := BusyRun.counting h (le_refl _)
  rw [BitVec.ofNat_toNat, BitVec.setWidth_eq, BitVec.sub_self] at hrun
  exact hrun.trans (.one (s := { s with dly := 0#32 }) h.busy)

/-! ### Delay steps (rules R28, R97) -/

/-- The cycle count of a time in nanoseconds, as the exact ceiling (rules R6, R97). -/
theorem cycles_eq_ceil (c : Config) (t : Nat) : c.cycles t = ⌈(t : ℚ) * (c.fClk : ℚ) / 1000000000⌉₊ := by
  refine eq_of_forall_ge_iff fun n => ?_
  rw [Nat.ceil_le, div_le_iff₀ (by norm_num), Config.cycles]
  norm_cast
  omega

theorem BusyRun.delay {s : State} {t : Nat} (hc : s.current = some (.delay t)) :
    BusyRun (s.dly.toNat + 1) s (advance { s with trace := s.trace ++ [.dly t] }) := by
  have hrun := BusyRun.countedOut (counting_of_delay hc)
  rwa [clock_delay_end (s := { s with dly := 0#32 }) hc rfl] at hrun

/-- The step lists wait for two times, after power-on and after a configuration write (rule R95). -/
theorem delay_time {c : Config} {arg : Word16} {op : OpName} {n t : Nat}
    (h : stepAction c arg op n = some (.delay t)) : t = c.tPwron ∨ t = c.tCfg := by
  revert h
  fun_cases stepAction c arg op n <;> simp <;> omega

/-- `DLY` holds what the entry to the step at hand loads. -/
def State.JustEntered (s : State) : Prop := s.dly = entryDelay s.cfg s.current

theorem frameEdge_enters (cmd : Word16) (d : Bool) (s : State) :
    (frameEdge cmd d s).seq = s.seq ∨ (frameEdge cmd d s).JustEntered := by
  by_cases hgap : s.ph = .gap ∧ s.dly = 0#32
  · obtain ⟨hp, hd⟩ := hgap
    right
    simp only [frameEdge, hp, hd, if_true]
    rfl
  · exact .inl (frameEdge_seq cmd d hgap)

/-- An edge stays at its step, enters a step, or ends idle. -/
theorem tick_enters (p : PinIn) (s : State) :
    (tick p s).seq = s.seq ∨ (tick p s).JustEntered ∨ (tick p s).Idle := by
  rcases tick_cases p s with ⟨_, h⟩ | ⟨_, _, _, h⟩ | ⟨_, _, _, h⟩ | ⟨_, _, h⟩ <;> rw [h]
  · exact .inr (.inr rfl)
  · exact .inr (.inl rfl)
  · exact .inl rfl
  · rcases stepEdge_cases p.sdi s with ⟨_, h⟩ | ⟨_, _, _, h⟩ | ⟨_, _, _, h⟩ | ⟨cmd, _, h⟩ | ⟨_, h⟩ | ⟨_, h⟩ | ⟨_, h⟩ <;>
      rw [h]
    · exact .inl rfl
    · exact .inr (.inl rfl)
    · exact .inl rfl
    · exact (frameEdge_enters cmd p.sdi s).imp_right .inl
    · exact .inr (.inl rfl)
    · exact .inr (.inl rfl)
    · exact .inr (.inr rfl)

/-- Settles O50: an edge that moves the sequencer to a delay step enters it, and the step is a count and its end. -/
theorem delayCountsDownToItsEnd : Obligations.DelayCountsDownToItsEnd := by
  refine ⟨fun p s t ht hne hc => ?_, fun s t _ hc => ⟨fun n hn => ?_, (BusyRun.delay hc).clockRun_eq⟩⟩
  · have hload : (tick p s).dly = BitVec.ofNat 32 (s.cfg.cycles t) := by
      rcases tick_enters p s with h | h | h
      · exact absurd h hne
      · rw [h, hc, tick_cfg]; rfl
      · exact absurd h (not_idle_of_current hc)
    have htime := delay_time (c := (tick p s).cfg) hc
    rw [tick_cfg] at htime
    obtain ⟨_, _, _, _, _, hcfg, hpwron⟩ := ht
    have hfits : s.cfg.cycles t < 2 ^ 32 := by
      rcases htime with rfl | rfl
      · exact hpwron
      · exact hcfg
    rw [hload, BitVec.toNat_ofNat, Nat.mod_eq_of_lt hfits, cycles_eq_ceil]
  · exact (BusyRun.counting (counting_of_delay hc) hn).clockRun_eq

end Sys2Proof.Machine
end

section
/-! SUPPORT. The frame engine cycle by cycle (40_serial_register_interface.md rules R90 to R92): the burst period by
period, the other phases, and a whole frame step. -/

namespace Sys2Proof.Machine

/-! ### The burst (rule R92) -/

/-- Both edges of one period of `sck`, with the device's bit of that period. -/
def period (s : State) : State := trailingEdge s.deviceBit (leadingEdge s.deviceBit s)

theorem clock_leading {s : State} (hf : s.inFrame = true) (hp : s.ph = .shift) (hb : s.bitcnt ≠ 0#5)
    (hk : s.sck = s.cfg.cpol) (hd : s.dly = 0#32) : clock s = leadingEdge s.deviceBit s := by
  obtain ⟨cmd, hc⟩ := (inFrame_iff s).1 hf
  rw [clock_frame hc (by simp [hp])]
  simp [frameEdge, hp, hb, hk, hd]

theorem clock_trailing {s : State} (hf : s.inFrame = true) (hp : s.ph = .shift) (hk : s.sck ≠ s.cfg.cpol)
    (hd : s.dly = 0#32) : clock s = trailingEdge s.deviceBit s := by
  obtain ⟨cmd, hc⟩ := (inFrame_iff s).1 hf
  rw [clock_frame hc (by simp [hp])]
  simp [frameEdge, hp, hk, hd]

/-- A period is two half-periods, each counted out and ended by its edge. -/
theorem BusyRun.onePeriod {s : State} (hf : s.inFrame = true) (hp : s.ph = .shift) (hb : s.bitcnt ≠ 0#5)
    (hk : s.sck = s.cfg.cpol) (hd : s.dly = halfPeriod s.cfg) :
    BusyRun (2 * ((halfPeriod s.cfg).toNat + 1)) s (period s) := by
  have hphase : s.ph ≠ .idle := by simp [hp]
  have hlead := BusyRun.countedOut (s := s) (.inr ⟨hf, hphase, fun _ h => hb h.1⟩)
  rw [hd, clock_leading (s := { s with dly := 0#32 }) hf hp hb hk rfl] at hlead
  have hhigh : (leadingEdge s.deviceBit s).sck ≠ s.cfg.cpol := by simp [leadingEdge]
  have htrail := BusyRun.countedOut (s := leadingEdge s.deviceBit s) (.inr ⟨hf, hphase, fun _ h => hb h.1⟩)
  rw [clock_trailing (s := { leadingEdge s.deviceBit s with dly := 0#32 }) hf hp hhigh rfl] at htrail
  rw [Nat.two_mul]
  exact hlead.trans htrail

/-- The burst after `j` periods (rule R92): the response has come in from its first bit on, and the command has moved out. -/
def afterPeriods (j : Nat) (s : State) : State :=
  { s with
    bitcnt := BitVec.ofNat 5 (16 - j), rxsr := (s.rxsr <<< j) ||| (s.response >>> (16 - j)),
    txsr := s.txsr <<< (if s.cfg.cpha then j - 1 else j) }

theorem afterPeriods_zero {s : State} (hb : s.bitcnt = 16#5) : afterPeriods 0 s = s := by
  have hresp : s.response >>> 16 = 0#16 := BitVec.ushiftRight_eq_zero (le_refl _)
  simp [afterPeriods, hresp, ← hb]

theorem afterPeriods_sixteen (s : State) :
    afterPeriods 16 s = { s with bitcnt := 0#5, rxsr := s.response, txsr := sentOut s.cfg s.txsr } := by
  have hrx : s.rxsr <<< 16 = 0#16 := BitVec.shiftLeft_eq_zero (le_refl _)
  have htx : s.txsr <<< 16 = 0#16 := BitVec.shiftLeft_eq_zero (le_refl _)
  cases ha : s.cfg.cpha <;> simp [afterPeriods, sentOut, hrx, htx, ha]

/-- One more bit of `r` shifted into what already holds the first `j` of them. -/
theorem shiftIn_next_bit (v r : Word16) {j : Nat} (hj : j < 16) :
    shiftIn ((v <<< j) ||| (r >>> (16 - j))) (r.getLsbD (15 - j)) = (v <<< (j + 1)) ||| (r >>> (15 - j)) := by
  apply BitVec.eq_of_getLsbD_eq
  intro i hi
  cases i with
  | zero => cases h : r.getLsbD (15 - j) <;> simp [shiftIn, h]
  | succ i =>
    have hpos : 16 - j + i = 15 - j + (i + 1) := by omega
    cases h : r.getLsbD (15 - j) <;> simp [shiftIn, hpos, hi]

/-- With `CPHA = 1` the transmit register does not move in the first period. -/
theorem leading_shift {v : Word16} {j : Nat} (hj : j < 16) :
    (if BitVec.ofNat 5 (16 - j) ≠ 16#5 then shiftOut (v <<< (j - 1)) else v <<< (j - 1)) = v <<< j := by
  cases j with
  | zero => simp
  | succ j =>
    have hlater : BitVec.ofNat 5 (16 - (j + 1)) ≠ 16#5 := by bv_omega
    rw [if_pos hlater, shiftOut, ← BitVec.shiftLeft_add]
    rfl

theorem period_afterPeriods {s : State} {j : Nat} (hj : j < 16) (hk : s.sck = s.cfg.cpol)
    (hd : s.dly = halfPeriod s.cfg) : period (afterPeriods j s) = afterPeriods (j + 1) s := by
  have hcount : BitVec.ofNat 5 (16 - j) - 1#5 = BitVec.ofNat 5 (15 - j) := by bv_omega
  have hindex : (BitVec.ofNat 5 (16 - j)).toNat - 1 = 15 - j := by bv_omega
  have hbit : (afterPeriods j s).deviceBit = s.response.getLsbD (15 - j) := by rw [← hindex]; rfl
  have hin := shiftIn_next_bit s.rxsr s.response hj
  have hout := leading_shift (v := s.txsr) hj
  rw [period, trailingEdge, leadingEdge, hbit]
  cases ha : s.cfg.cpha
  · simp [afterPeriods, ha, hcount, hin, shiftOut, hk, hd, BitVec.shiftLeft_add]
  · simpa [afterPeriods, ha, hcount, hin, hk, hd] using hout

/-- The first `j` periods of the burst, one after the other. -/
theorem BusyRun.periods {s : State} {j : Nat} (hf : s.inFrame = true) (hp : s.ph = .shift) (hb : s.bitcnt = 16#5)
    (hk : s.sck = s.cfg.cpol) (hd : s.dly = halfPeriod s.cfg) (hj : j ≤ 16) :
    BusyRun (2 * ((halfPeriod s.cfg).toNat + 1) * j) s (afterPeriods j s) := by
  induction j with
  | zero => rw [afterPeriods_zero hb]; exact .refl s
  | succ j ih =>
    have hleft : BitVec.ofNat 5 (16 - j) ≠ 0#5 := by bv_omega
    have hlast := BusyRun.onePeriod (s := afterPeriods j s) hf hp hleft hk hd
    rw [period_afterPeriods (by omega) hk hd] at hlast
    exact (ih (by omega)).trans hlast

/-- Under the configurations `DLY` can time, a half-period takes `N_HALF` cycles. -/
theorem halfPeriod_toNat {c : Config} (ht : c.Timed) : (halfPeriod c).toNat + 1 = c.nHalf := by
  obtain ⟨hpos, _, hle, _⟩ := ht
  rw [halfPeriod, BitVec.toNat_ofNat]
  omega

/-- Settles O51: the run of `j` periods, with a half-period counted in cycles. -/
theorem burstShiftsBitByBit : Obligations.BurstShiftsBitByBit := by
  intro s j hf ht hp hb hk hd _ hj
  have hrun := BusyRun.periods hf hp hb hk hd hj
  rw [halfPeriod_toNat ht] at hrun
  exact hrun.clockRun_eq

/-! ### The phases of a frame (rules R90, R91) -/

theorem BusyRun.setup {s : State} {cmd : Word16} (hc : s.current = some (.frame cmd)) (hp : s.ph = .setup) :
    BusyRun (s.dly.toNat + 1) s { s with ph := .shift, dly := halfPeriod s.cfg } := by
  have hrun := BusyRun.countedOut (counting_of_frame hc (by simp [hp]) (by simp [hp]))
  rw [clock_frame (s := { s with dly := 0#32 }) hc (by simp [hp])] at hrun
  simpa [frameEdge, hp] using hrun

theorem BusyRun.hold {s : State} {cmd : Word16} (hc : s.current = some (.frame cmd)) (hp : s.ph = .hold) :
    BusyRun (s.dly.toNat + 1) s (closeFrame cmd s).answered := by
  have hrun := BusyRun.countedOut (counting_of_frame hc (by simp [hp]) (by simp [hp]))
  rwa [clock_close (s := { s with dly := 0#32 }) hc hp rfl] at hrun

theorem BusyRun.gap {s : State} {cmd : Word16} (hc : s.current = some (.frame cmd)) (hp : s.ph = .gap) :
    BusyRun (s.dly.toNat + 1) s (advance { s with ph := .idle }) := by
  have hrun := BusyRun.countedOut (counting_of_frame hc (by simp [hp]) (by simp [hp]))
  rw [clock_frame (s := { s with dly := 0#32 }) hc (by simp [hp])] at hrun
  simp only [frameEdge, hp, if_true] at hrun
  exact hrun

theorem clock_shift_end {s : State} {cmd : Word16} (hc : s.current = some (.frame cmd)) (hp : s.ph = .shift)
    (hb : s.bitcnt = 0#5) (hk : s.sck = s.cfg.cpol) :
    clock s = { s with dly := BitVec.ofNat 32 s.cfg.nCs, ph := .hold } := by
  rw [clock_frame hc (by simp [hp])]
  simp only [frameEdge, hp]
  exact if_pos ⟨hb, hk⟩

/-- The whole burst, and the cycle that leaves phase SHIFT. -/
theorem BusyRun.shift {s : State} {cmd : Word16} (hc : s.current = some (.frame cmd)) (hp : s.ph = .shift)
    (hb : s.bitcnt = 16#5) (hk : s.sck = s.cfg.cpol) (hd : s.dly = halfPeriod s.cfg) :
    BusyRun (32 * ((halfPeriod s.cfg).toNat + 1) + 1) s
      { s with
        bitcnt := 0#5, rxsr := s.response, txsr := sentOut s.cfg s.txsr, ph := .hold,
        dly := BitVec.ofNat 32 s.cfg.nCs } := by
  have hburst := BusyRun.periods ((inFrame_iff s).2 ⟨cmd, hc⟩) hp hb hk hd (le_refl 16)
  have hlast := BusyRun.one (s := afterPeriods 16 s) (not_idle_of_current hc)
  rw [clock_shift_end (s := afterPeriods 16 s) hc hp rfl hk] at hlast
  rw [afterPeriods_sixteen] at hburst hlast
  rw [show 32 * ((halfPeriod s.cfg).toNat + 1) = 2 * ((halfPeriod s.cfg).toNat + 1) * 16 by omega]
  exact hburst.trans hlast

/-- A frame step, from the opening of the window to the end of the gap. -/
theorem BusyRun.frame {s : State} {cmd : Word16} (hc : s.current = some (.frame cmd)) (hp : s.ph = .idle)
    (hk : s.sck = s.cfg.cpol) :
    BusyRun (2 * (BitVec.ofNat 32 s.cfg.nCs).toNat + 32 * ((halfPeriod s.cfg).toNat + 1) +
      (BitVec.ofNat 32 s.cfg.nIdle).toNat + 5) s (advance (exchange cmd s)) := by
  have hopen := BusyRun.one (not_idle_of_current hc)
  rw [clock_frame hc (by simp [hp]), frameEdge, hp] at hopen
  have hrun := (((hopen.trans (.setup hc rfl)).trans (.shift hc rfl rfl hk rfl)).trans (.hold hc rfl)).trans (.gap hc rfl)
  convert hrun using 1
  · simp only [openFrame_dly, openFrame_cfg, State.answered_dly, closeFrame_dly]
    omega
  · rw [exchange, ← hk]; rfl

/-- Settles O52: a frame step's run, with its counts in cycles. -/
theorem frameAtPinLevelIsTheExchange : Obligations.FrameAtPinLevelIsTheExchange := by
  intro s cmd hI ht hc hp
  have hhalf := halfPeriod_toNat ht
  obtain ⟨_, _, _, hidle, _⟩ := hI
  obtain ⟨_, hk, _⟩ := hidle hp
  have hrun := BusyRun.frame hc hp hk
  obtain ⟨_, _, _, hgap, hcs, _⟩ := ht
  rw [hhalf, BitVec.toNat_ofNat, BitVec.toNat_ofNat, Nat.mod_eq_of_lt hcs, Nat.mod_eq_of_lt hgap] at hrun
  rw [← cycles_eq_ceil]
  exact hrun.clockRun_eq

end Sys2Proof.Machine
end

section
/-! SUPPORT. The step lists run cycle by cycle (10_state.md rule R26) are the instructions' effects: the two views of an
operation agree (40_serial_register_interface.md rule R99). -/

namespace Sys2Proof.Machine

/-! ### One step of a list -/

/-- What a step of a list does as one transition; the last step is `finishEdge`. -/
def actionEffect : Action → State → State
  | .delay t, s => pause t s
  | .frame cmd, s => exchange cmd s
  | .update, s => unwrap s
  | .clear, s => clearTracker s
  | .finish, s => s

theorem actionEffect_cfg (a : Action) (s : State) : (actionEffect a s).cfg = s.cfg := by cases a <;> rfl

theorem actionEffect_arg (a : Action) (s : State) : (actionEffect a s).arg = s.arg := by cases a <;> rfl

theorem actionEffect_engineAtRest (a : Action) {s : State} (h : s.EngineAtRest) : (actionEffect a s).EngineAtRest := by
  have ⟨hp, hcs, hk, hb, _⟩ := h
  cases a with
  | delay t => exact ⟨hp, hcs, hk, hb, rfl⟩
  | frame cmd => exact ⟨rfl, rfl, rfl, rfl, rfl⟩
  | update | clear | finish => exact h

/-- A step entered with the engine at rest ends, after some cycles, with its effect and the next step entered. -/
theorem BusyRun.listStep {s : State} {op : OpName} {n : Nat} {a : Action} (he : s.EngineAtRest)
    (ha : stepAction s.cfg s.arg op n = some a) (hlast : a ≠ .finish) :
    ∃ m, BusyRun m (enterStep op n s) (enterStep op (n + 1) (actionEffect a s)) := by
  obtain ⟨hp, _, hk, _⟩ := he
  have hc : (enterStep op n s).current = some a := ha
  cases a with
  | delay t => exact ⟨_, .delay hc⟩
  | frame cmd => exact ⟨_, .frame hc hp hk⟩
  | update | clear =>
    have hrun := BusyRun.one (not_idle_of_current hc)
    rw [clock_of_not_inFrame hc (by rw [State.inFrame, hc]), stepEdge, hc] at hrun
    exact ⟨1, hrun⟩
  | finish => exact absurd rfl hlast

theorem BusyRun.finish {s : State} (hc : s.current = some .finish) : BusyRun 1 s (finishEdge s) := by
  have hrun := BusyRun.one (not_idle_of_current hc)
  rwa [clock_of_not_inFrame hc (by rw [State.inFrame, hc]), stepEdge, hc] at hrun

/-! ### A whole list -/

/-- The steps of a list before its last, as rules R76, R93, R95, R113, R135, R136 and R140 number them. -/
def actionsOf (c : Config) (arg : Word16) : OpName → List Action
  | .idle | .ill => []
  | .rdreg => [.frame (commandOperand arg)]
  | .config =>
    [.delay c.tPwron, .frame wordIoCurrentConfig, .delay c.tCfg, .frame wordPolarityZeroLow, .delay c.tCfg,
      .frame wordZeroHigh, .delay c.tCfg, .frame wordZeroPulseWidth, .delay c.tCfg, .frame wordAngleRead]
  | .sample | .mech | .elec => [.frame wordAngleRead, .update]
  | .zero => [.clear, .frame wordAngleRead, .update]

/-- From step `n` on the list of `op` is `as` and then its last step. -/
def ListFrom (c : Config) (arg : Word16) (op : OpName) : Nat → List Action → Prop
  | n, [] => stepAction c arg op n = some .finish
  | n, a :: as => stepAction c arg op n = some a ∧ a ≠ .finish ∧ ListFrom c arg op (n + 1) as

theorem listFrom_actionsOf (c : Config) (arg : Word16) {op : OpName} (h : op ≠ .idle) :
    ListFrom c arg op 0 (actionsOf c arg op) := by
  cases op with
  | idle => exact absurd rfl h
  | _ => simp [actionsOf, ListFrom, stepAction]

/-- The effects of steps one after the other. -/
def actionsEffect (as : List Action) (s : State) : State := as.foldl (fun t a => actionEffect a t) s

/-- From any of its steps on a list runs to the end of its last step. -/
theorem BusyRun.list {op : OpName} (as : List Action) {n : Nat} {s : State} (he : s.EngineAtRest)
    (hl : ListFrom s.cfg s.arg op n as) :
    ∃ m, BusyRun m (enterStep op n s) (finishEdge (enterStep op (n + as.length) (actionsEffect as s))) := by
  induction as generalizing n s with
  | nil => exact ⟨1, .finish hl⟩
  | cons a as ih =>
    obtain ⟨ha, hlast, hrest⟩ := hl
    rw [← actionEffect_cfg a s, ← actionEffect_arg a s] at hrest
    obtain ⟨m, hfirst⟩ := BusyRun.listStep he ha hlast
    obtain ⟨k, hothers⟩ := ih (actionEffect_engineAtRest a he) hrest
    rw [List.length_cons, Nat.add_comm as.length 1, ← Nat.add_assoc]
    exact ⟨m + k, hfirst.trans hothers⟩

/-! ### The two views of an operation (rule R99) -/

/-- An operation as one transition, written from its step list: the steps, then the last one. -/
def listEffect (op : OpName) (s : State) : State :=
  finishEdge (enterStep op (actionsOf s.cfg s.arg op).length (actionsEffect (actionsOf s.cfg s.arg op) s))

/-- The step list and the meaning of an operation word agree; a list without frames leaves `DLY` at the 0 it found. -/
theorem listEffect_eq_effectOf (w : OpWord) {s : State} (he : s.EngineAtRest) :
    listEffect (opOfCode (opCode w)) (latch (opArg w) s) = effectOf (decodeOpw w) s := by
  obtain ⟨_, _, _, _, hd⟩ := he
  have hill : listEffect .ill (latch (opArg w) s) = recordIllegal (latch (opArg w) s) := by
    rw [recordIllegal, deliver, latch, State.setIllop, hd]; rfl
  fun_cases decodeOpw w
  case case1 h | case2 h | case3 h | case4 h | case5 h | case6 h => rw [h]; rfl
  case case7 h => rw [h]; exact hill
  case case8 h0 h1 h2 h3 h4 h5 h6 => rw [code_eq_seven_of_ne h0 h1 h2 h3 h4 h5 h6]; exact hill

/-- An accepted operation word runs, busy in every cycle, to the effect of its instruction. -/
theorem BusyRun.operation (w : OpWord) {s : State} (he : s.EngineAtRest) :
    ∃ m, BusyRun m (acceptEdge w s) (effectOf (decodeOpw w) s) := by
  have hl := listFrom_actionsOf s.cfg (opArg w) (opOfCode_ne_idle (opCode w))
  obtain ⟨m, hrun⟩ := BusyRun.list (s := latch (opArg w) s) _ he hl
  rw [Nat.zero_add] at hrun
  rw [← listEffect_eq_effectOf w he]
  exact ⟨m, hrun⟩

theorem effectOf_inputs (i : Instr) (s : State) (l : List Input) :
    effectOf i { s with inputs := l } = { effectOf i s with inputs := l } := by
  cases i <;> rfl

/-- The step that takes a presented operation word runs its effect. -/
theorem step_opw {s : State} {w : OpWord} {rest : List Input} (hI : s.Inv) (hi : s.Idle)
    (hin : s.inputs = .word (.opw w) :: rest) :
    step s = .next { effectOf (decodeOpw w) s with inputs := rest } := by
  rw [stepRunsTheDecodedInstruction s _ rest _ hi hin rfl, exec_idle (s := { s with inputs := rest }) hI hi,
    effectOf_inputs]

/-- A presented operation word is accepted at the next edge, whether it is presented to run whole or for the clock
level. -/
theorem clock_presented {s : State} {w : OpWord} (hi : s.Idle) (hp : s.presented = some w) :
    clock s = { acceptEdge w s with inputs := s.inputs.tail } := by
  have hpins : s.pins = ⟨false, true, w, s.deviceBit⟩ := by rw [State.pins, hp]; rfl
  rw [clock, hpins, tick_accept hi, hostMoves, if_pos ⟨hi, by rw [hp]; rfl⟩, deviceMoves, if_neg fun h => h.1 hi]

/-- Settles O53: the accepting edge, and then the run of the operation's list. -/
theorem clockAgreesWithTheTransaction : Obligations.ClockAgreesWithTheTransaction := by
  intro s w rest hI hi hin
  obtain ⟨n, hrun⟩ := BusyRun.operation w (s := { s with inputs := rest }) (engineAtRest_of_idle hI hi)
  have haccept : clock s = acceptEdge w { s with inputs := rest } := by
    rw [clock_presented (w := w) hi (by rw [State.presented, hin]), hin]; rfl
  have hend : clockRun (n + 1) s = { effectOf (decodeOpw w) s with inputs := rest } := by
    rw [clockRun, haccept, ← effectOf_inputs]
    exact hrun.clockRun_eq
  refine ⟨n, ?_, ?_, fun k hk => ?_⟩
  · rw [hend, step_opw hI hi hin]
  · rw [hend]; exact effectOf_idle _ hI hi
  · rw [clockRun, haccept]
    exact hrun.busy hk

/-! ### Runs of the machine (log entries 5, 18) -/

theorem coreRun_succ {s t : State} (h : step s = .next t) (n : Nat) :
    Sys2Proof.core.run (n + 1) s = Sys2Proof.core.run n t := by
  have hcore : Sys2Proof.core.step s = .next t := h
  simp only [Host.Core.run, hcore]

/-- A busy step takes one entry in which nothing is presented, while there is one, and otherwise leaves the request it
finds. -/
theorem step_busy_cycle {s : State} (hI : s.Inv) (ht : s.cfg.Timed) (hi : ¬ s.Idle) (k : Nat) {rest : List Input}
    (hrst : ∀ more, rest ≠ .rst :: more) (hpass : ∀ more, rest ≠ .pass :: more) :
    step { s with inputs := List.replicate k .pass ++ rest } =
      .next { clock s with inputs := List.replicate (k - 1) .pass ++ rest } := by
  obtain ⟨hheld, hnone, htake, _⟩ :=
    busyBlockHoldsTheRequest { s with inputs := List.replicate k .pass ++ rest } hI ht hi
  rw [clock_busy_inputs hi] at hheld hnone htake
  cases k with
  | succ k => exact htake _ rfl
  | zero =>
    cases rest with
    | nil => exact (hnone rfl).1
    | cons a more =>
      cases a with
      | word w => exact (hheld _ more (.inl ⟨w, rfl⟩) rfl).1
      | edge w => exact (hheld _ more (.inr ⟨w, rfl⟩) rfl).1
      | pass => exact absurd rfl (hpass more)
      | rst => exact absurd rfl (hrst more)

/-- A chain of busy cycles is a run of the machine with as many steps. -/
theorem BusyRun.coreRun {n k : Nat} {s t : State} {rest : List Input} (h : BusyRun n s t) (hI : s.Inv)
    (ht : s.cfg.Timed) (hrst : ∀ more, rest ≠ .rst :: more) (hpass : ∀ more, rest ≠ .pass :: more) :
    Sys2Proof.core.run n ({ s with inputs := List.replicate k .pass ++ rest } : State) =
      .next ({ t with inputs := List.replicate (k - n) .pass ++ rest } : State) := by
  induction h generalizing k with
  | refl s => rfl
  | @cycle n s t hbusy _ ih =>
    rw [coreRun_succ (step_busy_cycle hI ht hbusy k hrst hpass), ih (clock_inv hI) (by rwa [clock_cfg]), Nat.sub_sub,
      Nat.add_comm 1 n]

/-- Settles O55: the accepting edge is one step, and each busy cycle after it another. -/
theorem cycleByCycleRunEndsWhereOneStepEnds : Obligations.CycleByCycleRunEndsWhereOneStepEnds := by
  intro s w k rest hI ht hi hin hrst hpass
  have hI' : (acceptEdge w s).Inv := acceptEdge_inv w hI hi
  obtain ⟨n, hrun⟩ := BusyRun.operation w (engineAtRest_of_idle hI hi)
  have haccept : step s = .next { acceptEdge w s with inputs := List.replicate k .pass ++ rest } := by
    rw [step_idle hI.1.1 hi, idleStep, hin, ← clock_accept hi hin]
    exact (if_pos hI.1.1).trans (if_pos ht)
  refine ⟨{ effectOf (decodeOpw w) s with inputs := rest }, n + 1, k - n, ?_, effectOf_idle _ hI hi, Nat.sub_le k n, ?_⟩
  · rw [step_opw (s := { s with inputs := .word (.opw w) :: rest }) hI hi rfl, effectOf_inputs]
  · rw [coreRun_succ haccept]
    exact hrun.coreRun hI' ht hrst hpass

end Sys2Proof.Machine
end

section
/-! SUPPORT. The next states of RDREG and CONFIG written out (40_serial_register_interface.md rules R93, R95). -/

namespace Sys2Proof.Machine

/-- Settles O14: the one frame of an engine at rest, and the delivery of an idle block. -/
theorem rdregSendsItsOperand : Obligations.RdregSendsItsOperand := by
  intro c s hI hi
  obtain ⟨_, hs, _⟩ := idle_at_rest hI hi
  have he : (latch c s).EngineAtRest := engineAtRest_of_idle (s := s) hI hi
  refine ⟨decodeEncodeRoundTrip (.rdreg c), ?_⟩
  rw [exec_idle hI hi, effectOf, exchange_of_engineAtRest he, deliver, ← hs]
  rfl

/-! ### CONFIG (rule R95) -/

/-- An engine at rest after `n + 1` frames, the last of them with `cmd`, and these events more on the link. -/
def afterFrames (n : Nat) (cmd : Word16) (events : List LinkEvent) (s : State) : State :=
  { s with
    rxdata := s.responseAt n, rxsr := s.responseAt n, txsr := sentOut s.cfg cmd, script := s.script.drop (n + 1),
    frames := s.frames + (n + 1), trace := s.trace ++ events }

theorem exchange_first {s : State} (h : s.EngineAtRest) (cmd : Word16) :
    exchange cmd s = afterFrames 0 cmd [.frm cmd (s.responseAt 0)] s := by
  rw [exchange_of_engineAtRest h, afterFrames, zero_add, List.drop_one]
  rfl

/-- The next frame is answered with the word after those already taken. -/
theorem exchange_afterFrames {s : State} (h : s.EngineAtRest) (n : Nat) (cmd cmd' : Word16) (events : List LinkEvent) :
    exchange cmd' (afterFrames n cmd events s) =
      afterFrames (n + 1) cmd' (events ++ [.frm cmd' (s.responseAt (n + 1))]) s := by
  have hscript : (s.script.drop (n + 1)).tail = s.script.drop (n + 1 + 1) := List.tail_drop
  rw [exchange_of_engineAtRest (s := afterFrames n cmd events s) h, afterFrames, afterFrames, ← List.append_assoc,
    ← hscript]
  rfl

theorem pause_afterFrames {s : State} (h : s.EngineAtRest) (t n : Nat) (cmd : Word16) (events : List LinkEvent) :
    pause t (afterFrames n cmd events s) = afterFrames n cmd (events ++ [.dly t]) s := by
  obtain ⟨_, _, _, _, hd⟩ := h
  rw [pause, afterFrames, afterFrames, ← List.append_assoc, ← hd]

/-- Settles O15: five frames of an engine at rest, the delays between them, and the delivery of an idle block. -/
theorem configRunsTheBringUpSequence : Obligations.ConfigRunsTheBringUpSequence := by
  intro a s hI hi
  obtain ⟨_, hs, _, _, _, _, hdly⟩ := idle_at_rest hI hi
  have he : (latch a s).EngineAtRest := engineAtRest_of_idle (s := s) hI hi
  have hpower : (pause s.cfg.tPwron (latch a s)).EngineAtRest := actionEffect_engineAtRest (.delay s.cfg.tPwron) he
  refine ⟨decodeEncodeRoundTrip (.config a), ?_⟩
  rw [exec_idle hI hi, effectOf]
  simp only [configWrite, exchange_first hpower, pause_afterFrames hpower, exchange_afterFrames hpower]
  rw [afterFrames, deliver, State.setConfigured, ← hs, pause, ← hdly, List.append_assoc]
  rfl

end Sys2Proof.Machine
end

section
/-! SUPPORT. The tracker's arithmetic (00_scope.md rule R11, 41_unwrap_tracker.md rules R110 to R112) as congruences, as
balanced remainders, and in bits; then the statements about one update and about the reduction. -/

namespace Sys2Proof.Machine

/-! ### Congruences -/

theorem wrapTo_modEq (n : Nat) (a : Int) : (wrapTo n a : Int) ≡ a [ZMOD (2 ^ n : Nat)] := by
  rw [wrapTo_cast]
  exact Int.mod_modEq a _

/-- What is congruent in the accumulator's width is congruent in revolutions, because `RES` divides `2^W` (rule R5). -/
theorem modEq_res {c : Config} (h : c.Valid) {a b : Int} (hab : a ≡ b [ZMOD (2 ^ c.w : Nat)]) : a ≡ b [ZMOD c.res] :=
  hab.of_dvd (Int.natCast_dvd_natCast.2 (res_dvd_two_pow c h))

/-- Reading the accumulator as signed or as unsigned makes no difference in revolutions (rule R112). -/
theorem signedOf_modEq {c : Config} (h : c.Valid) (v : Nat) : signedOf c.w v ≡ v [ZMOD c.res] :=
  modEq_res h (signedOf_emod c.w v)

theorem shortestDelta_modEq (c : Config) (raw last : Nat) :
    shortestDelta c raw last ≡ (raw : Int) - last [ZMOD c.res] :=
  (Int.modEq_iff_dvd.2 (shortestDelta_dvd c raw last)).symm

theorem mechCode_eq_emod_acc {s : State} (h : s.cfg.Valid) :
    (s.mechCode : Int) = ((s.acc : Int) - s.zeroOffset) % (s.cfg.res : Int) := by
  rw [mechCode_cast]
  exact (signedOf_modEq h s.acc).sub_right _

/-! ### Balanced remainders -/

theorem bmod_congr {n : Nat} {a b : Int} (h : a ≡ b [ZMOD n]) : a.bmod n = b.bmod n := by
  rw [← Int.emod_bmod a, h, Int.emod_bmod]

/-- `Int.bmod` compares with half of the modulus rounded up, the spec with twice the value. -/
theorem bmod_eq_ite_two_mul (a : Int) (n : Nat) :
    a.bmod n = if 2 * (a % (n : Int)) < n then a % (n : Int) else a % (n : Int) - n := by
  rw [Int.bmod_def]
  split <;> split <;> omega

/-- The two's-complement reading of a pattern in range is its balanced remainder. -/
theorem signedOf_eq_bmod {n v : Nat} (h : v < 2 ^ n) : signedOf n v = (v : Int).bmod (2 ^ n) := by
  rw [bmod_eq_ite_two_mul, Int.emod_eq_of_lt (by omega) (by exact_mod_cast h), signedOf]
  split <;> split <;> omega

/-- The shortest signed rotation is the balanced remainder of the difference of the samples. -/
theorem shortestDelta_eq_bmod {c : Config} (h : c.Valid) (raw last : Nat) :
    shortestDelta c raw last = ((raw : Int) - last).bmod c.res := by
  have heven := res_even c h
  rw [bmod_eq_ite_two_mul, ← rawDifference_cast, shortestDelta]
  split <;> split <;> omega

/-! ### Bits -/

theorem modulo_two_pow (a : Int) (n : Nat) : modulo a (2 ^ n) = (BitVec.ofInt n a).toNat := (BitVec.toNat_ofInt a).symm

theorem ofInt_sub (n : Nat) (a b : Int) : BitVec.ofInt n (a - b) = BitVec.ofInt n a - BitVec.ofInt n b := by
  rw [sub_eq_add_neg, BitVec.ofInt_add, BitVec.ofInt_neg, BitVec.sub_eq_add_neg]

theorem setWidth_ofInt {k n : Nat} (h : k ≤ n) (a : Int) : (BitVec.ofInt n a).setWidth k = BitVec.ofInt k a := by
  apply BitVec.eq_of_toNat_eq
  have hdvd : ((2 ^ k : Nat) : Int) ∣ (2 ^ n : Nat) := Int.natCast_dvd_natCast.2 (Nat.pow_dvd_pow 2 h)
  rw [BitVec.toNat_setWidth, ← modulo_two_pow, ← modulo_two_pow]
  zify
  rw [modulo_cast _ (Nat.two_pow_pos n), modulo_cast _ (Nat.two_pow_pos k)]
  exact_mod_cast Int.emod_emod_of_dvd a hdvd

/-- The shortest signed rotation is the difference of the samples in K bits, read as signed. -/
theorem shortestDelta_eq_toInt {c : Config} (h : c.Valid) (raw last : Nat) :
    shortestDelta c raw last = (BitVec.ofNat c.k raw - BitVec.ofNat c.k last).toInt := by
  rw [shortestDelta_eq_bmod h, ← BitVec.ofInt_natCast, ← BitVec.ofInt_natCast, ← ofInt_sub, BitVec.toInt_ofInt]
  rfl

/-- Settles O22: the delta is `shortestDelta`, whose bits are the K-bit difference; wrapping the sum is adding in W bits. -/
theorem unwrapTakesTheShortestRotation : Obligations.UnwrapTakesTheShortestRotation := by
  intro s hI
  have hv := hI.1.1
  refine ⟨shortestDelta s.cfg (rawOf s.cfg s.rxdata) s.lastRaw, shortestDelta_range s.cfg hv _ _,
    shortestDelta_dvd s.cfg _ _, ?_, wrapTo_cast _ _, rfl, rfl, ?_⟩
  · rintro d rfl
    rw [← rawDifference_cast, shortestDelta]
    norm_cast
  · rw [unwrap_acc, wrapTo, modulo_two_pow, BitVec.ofInt_add, BitVec.ofInt_natCast, shortestDelta_eq_toInt hv]
    rfl

/-- Settles O23: dividing by `2^SHIFT` drops the low bits, and what is left has no more than K. -/
theorem rawSampleIsTheHighBits : Obligations.RawSampleIsTheHighBits := by
  refine ⟨fun c r hv => ⟨rawOf_lt c hv r, ?_⟩, by decide⟩
  rw [BitVec.extractLsb'_toNat, Nat.shiftRight_eq_div_pow]
  exact (Nat.mod_eq_of_lt (rawOf_lt c hv r)).symm

/-- Settles O24: all four readings are the difference modulo `RES`. -/
theorem reductionIsTheLowBits : Obligations.ReductionIsTheLowBits := by
  intro s hI
  obtain ⟨hv, _, hacc, _⟩ := hI.1
  have hmod : s.mechCode = modulo ((s.acc : Int) - s.zeroOffset) (2 ^ s.cfg.k) := by
    zify
    rw [mechCode_eq_emod_acc hv, modulo_cast _ (Nat.two_pow_pos _)]
    rfl
  refine ⟨mechCode_lt s, ?_, ?_, mechCode_eq_emod_acc hv⟩
  · rw [mechCode_cast, signedOf_eq_bmod hacc, BitVec.toInt_ofNat']
  · rw [hmod, modulo_two_pow, ← setWidth_ofInt hv.2.1, ofInt_sub, BitVec.ofInt_natCast, BitVec.ofInt_natCast]

end Sys2Proof.Machine
end

section
/-! SUPPORT. What every update by a sample keeps, `(ACC − LAST_RAW) mod RES` (41_unwrap_tracker.md rule R114), over one
update, over runs of samples and of instructions without ZERO, and over the reference form (rule R118); and what the
mechanical code is because of it. -/

namespace Sys2Proof.Machine

/-- `t` has the parameters, the zero offset and the offset `(ACC − LAST_RAW) mod RES` of `s` (rule R114). -/
structure SameOffset (s t : State) : Prop where
  cfg : t.cfg = s.cfg
  zeroOffset : t.zeroOffset = s.zeroOffset
  offset : (t.acc : Int) - t.lastRaw ≡ s.acc - s.lastRaw [ZMOD s.cfg.res]

theorem SameOffset.refl (s : State) : SameOffset s s := ⟨rfl, rfl, rfl⟩

theorem SameOffset.trans {s t u : State} (h : SameOffset s t) (h' : SameOffset t u) : SameOffset s u :=
  ⟨h'.cfg.trans h.cfg, h'.zeroOffset.trans h.zeroOffset, (h.cfg ▸ h'.offset).trans h.offset⟩

theorem SameOffset.valid {s t : State} (h : SameOffset s t) (hv : s.cfg.Valid) : t.cfg.Valid := h.cfg ▸ hv

/-- In revolutions the accumulator moves as the sample does. -/
theorem SameOffset.acc_moves {s t : State} (h : SameOffset s t) :
    (t.acc : Int) - s.acc ≡ t.lastRaw - s.lastRaw [ZMOD s.cfg.res] :=
  calc (t.acc : Int) - s.acc
      _ = (t.acc - t.lastRaw) + (t.lastRaw - s.acc) := by ring
      _ ≡ (s.acc - s.lastRaw) + (t.lastRaw - s.acc) [ZMOD s.cfg.res] := h.offset.add_right _
      _ = t.lastRaw - s.lastRaw := by ring

/-- The mechanical code is the last sample, the offset and the zero offset (rule R114). -/
theorem SameOffset.mechCode_eq {s t : State} (h : SameOffset s t) (hv : s.cfg.Valid) :
    (t.mechCode : Int) = (t.lastRaw + ((s.acc : Int) - s.lastRaw) - s.zeroOffset) % (s.cfg.res : Int) := by
  rw [mechCode_eq_emod_acc (h.valid hv), h.cfg, h.zeroOffset]
  calc (t.acc : Int) - s.zeroOffset
      _ = t.lastRaw + (t.acc - t.lastRaw) - s.zeroOffset := by ring
      _ ≡ t.lastRaw + (s.acc - s.lastRaw) - s.zeroOffset [ZMOD s.cfg.res] := (h.offset.add_left _).sub_right _

/-! ### One update -/

theorem unwrap_sameOffset {s : State} (hv : s.cfg.Valid) : SameOffset s (unwrap s) := by
  refine ⟨rfl, rfl, ?_⟩
  have hdelta := shortestDelta_modEq s.cfg (rawOf s.cfg s.rxdata) s.lastRaw
  rw [unwrap_acc, unwrap_lastRaw]
  calc (wrapTo s.cfg.w (s.acc + shortestDelta s.cfg (rawOf s.cfg s.rxdata) s.lastRaw) : Int) - rawOf s.cfg s.rxdata
      _ ≡ s.acc + shortestDelta s.cfg (rawOf s.cfg s.rxdata) s.lastRaw - rawOf s.cfg s.rxdata [ZMOD s.cfg.res] :=
        (modEq_res hv (wrapTo_modEq _ _)).sub_right _
      _ ≡ s.acc + (rawOf s.cfg s.rxdata - s.lastRaw) - rawOf s.cfg s.rxdata [ZMOD s.cfg.res] :=
        (hdelta.add_left _).sub_right _
      _ = s.acc - s.lastRaw := by ring

/-- Settles O25: `signed(ACC)` is `ACC` modulo `RES`, so the offset kept is the one of the statement. -/
theorem unwrapKeepsTheOffset : Obligations.UnwrapKeepsTheOffset := by
  rintro s _ hI rfl
  have hv := hI.1.1
  have h := unwrap_sameOffset hv
  have hofs : signedOf s.cfg.w s.acc - s.lastRaw ≡ s.acc - s.lastRaw [ZMOD s.cfg.res] :=
    (signedOf_modEq hv s.acc).sub_right _
  constructor
  · exact (((signedOf_modEq hv (unwrap s).acc).sub_right _).trans h.offset).trans hofs.symm
  · rw [h.mechCode_eq hv]
    exact (((Int.mod_modEq _ _).trans hofs).symm.add_left _).sub_right _

/-- Settles O30: ACC and the code move with the sample, which shows the shaft modulo `RES`. -/
theorem aliasingKeepsTheCodes : Obligations.AliasingKeepsTheCodes := by
  intro s p q hI hp hq
  have hv := hI.1.1
  have h := unwrap_sameOffset hv
  have hshaft : ((unwrap s).lastRaw : Int) - s.lastRaw ≡ q - p [ZMOD s.cfg.res] := by
    rw [unwrap_lastRaw, hp, hq]
    exact (Int.mod_modEq q _).sub (Int.mod_modEq p _)
  constructor
  · have hsigned := (signedOf_modEq hv (unwrap s).acc).sub (signedOf_modEq hv s.acc)
    exact ((hsigned.trans h.acc_moves).trans hshaft).symm.dvd
  · rw [h.mechCode_eq hv, mechCode_eq_emod_acc hv]
    calc ((unwrap s).lastRaw : Int) + (s.acc - s.lastRaw) - s.zeroOffset
        _ = (s.acc - s.zeroOffset) + ((unwrap s).lastRaw - s.lastRaw) := by ring
        _ ≡ (s.acc - s.zeroOffset) % s.cfg.res + (q - p) [ZMOD s.cfg.res] := (Int.mod_modEq _ _).symm.add hshaft

/-! ### Runs of instructions without ZERO -/

theorem effectOf_sameOffset_of_not_writesTracker {i : Instr} (hw : writesTracker i = false) (s : State) :
    SameOffset s (effectOf i s) := by
  obtain ⟨hl, ha, hz⟩ := effectOf_keeps_tracker hw s
  exact ⟨effectOf_cfg i s, hz, by rw [hl, ha]⟩

theorem effectOf_sameOffset {i : Instr} (hz : isZero i = false) {s : State} (hv : s.cfg.Valid) :
    SameOffset s (effectOf i s) := by
  cases i with
  | sample a | mech a | elec a =>
    have h := unwrap_sameOffset (s := exchange wordAngleRead (latch a s)) hv
    exact ⟨h.cfg, h.zeroOffset, h.offset⟩
  | zero a => cases hz
  | _ => exact effectOf_sameOffset_of_not_writesTracker rfl s

theorem effectsOf_sameOffset (is : List Instr) (hz : ∀ i ∈ is, isZero i = false) {s : State} (hv : s.cfg.Valid) :
    SameOffset s (effectsOf is s) := by
  induction is generalizing s with
  | nil => exact .refl s
  | cons i is ih =>
    have h := effectOf_sameOffset (hz i List.mem_cons_self) hv
    exact h.trans (ih (fun j hj => hz j (List.mem_cons_of_mem i hj)) (h.valid hv))

/-- Settles O26: reset leaves the offset 0, which every instruction but ZERO keeps, and the zero offset stays 0. -/
theorem uncalibratedBlockReportsTheRawSample : Obligations.UncalibratedBlockReportsTheRawSample := by
  intro is s hI hi hzero hrel hz
  obtain ⟨hrun, ⟨⟨_, hlast, _⟩, _⟩, _⟩ := runInstrs_idle is hI hi
  have h := effectsOf_sameOffset is hz hI.1.1
  refine ⟨effectsOf is s, hrun, h.zeroOffset.trans hzero, ?_⟩
  have hofs : (s.acc : Int) - s.lastRaw ≡ 0 [ZMOD s.cfg.res] := by
    rw [← hrel, Int.natCast_mod]
    exact Int.modEq_zero_iff_dvd.2 Int.dvd_self_sub_emod
  have hcode : ((effectsOf is s).mechCode : Int) ≡ (effectsOf is s).lastRaw [ZMOD s.cfg.res] := by
    rw [h.mechCode_eq hI.1.1, hzero]
    simpa using (Int.mod_modEq _ _).trans (hofs.add_left ((effectsOf is s).lastRaw : Int))
  rw [← h.cfg] at hcode
  exact Nat.ModEq.eq_of_lt_of_lt (Int.natCast_modEq_iff.1 hcode) (mechCode_lt _) hlast

/-! ### Runs of samples, and the reference form (rule R118) -/

theorem samples_sameOffset (rs : List Word16) {s : State} (hv : s.cfg.Valid) : SameOffset s (samples rs s) := by
  induction rs generalizing s with
  | nil => exact .refl s
  | cons r rs ih =>
    have h := unwrap_sameOffset (s := { s with rxdata := r }) hv
    have hstep : SameOffset s (unwrap { s with rxdata := r }) := ⟨rfl, rfl, h.offset⟩
    exact hstep.trans (ih hv)

theorem samples_lastRaw (rs : List Word16) (s : State) :
    (samples rs s).lastRaw = (rs.getLast?.map (rawOf s.cfg)).getD s.lastRaw := by
  induction rs generalizing s with
  | nil => rfl
  | cons r rs ih =>
    rw [samples, ih, List.getLast?_cons]
    cases rs.getLast? <;> rfl

theorem referenceSamples_lastRaw (rs : List Word16) (s : State) :
    (referenceSamples rs s).lastRaw = (rs.getLast?.map (rawOf s.cfg)).getD s.lastRaw := by
  induction rs generalizing s with
  | nil => rfl
  | cons r rs ih =>
    rw [referenceSamples, ih, List.getLast?_cons]
    cases rs.getLast? <;> rfl

theorem referenceSamples_cfg (rs : List Word16) (s : State) : (referenceSamples rs s).cfg = s.cfg := by
  induction rs generalizing s with
  | nil => rfl
  | cons r rs ih => exact ih _

theorem referenceSamples_zeroOffset (rs : List Word16) (s : State) :
    (referenceSamples rs s).zeroOffset = s.zeroOffset := by
  induction rs generalizing s with
  | nil => rfl
  | cons r rs ih => exact ih _

/-- The reference form keeps `ACC − LAST_RAW` in the accumulator's width, so it telescopes. -/
theorem referenceSamples_modEq (rs : List Word16) (s : State) :
    ((referenceSamples rs s).acc : Int) - (referenceSamples rs s).lastRaw ≡
      s.acc - s.lastRaw [ZMOD (2 ^ s.cfg.w : Nat)] := by
  induction rs generalizing s with
  | nil => rfl
  | cons r rs ih =>
    have hstep : (wrapTo s.cfg.w (s.acc + rawOf s.cfg r - s.lastRaw) : Int) - rawOf s.cfg r ≡
        s.acc + rawOf s.cfg r - s.lastRaw - rawOf s.cfg r [ZMOD (2 ^ s.cfg.w : Nat)] := (wrapTo_modEq _ _).sub_right _
    rw [show (s.acc : Int) - s.lastRaw = s.acc + rawOf s.cfg r - s.lastRaw - rawOf s.cfg r by ring]
    exact (ih (referenceUnwrap { s with rxdata := r })).trans hstep

theorem referenceSamples_acc_lt (rs : List Word16) {s : State} (h : s.acc < 2 ^ s.cfg.w) :
    (referenceSamples rs s).acc < 2 ^ s.cfg.w := by
  induction rs generalizing s with
  | nil => exact h
  | cons r rs ih => exact ih (s := referenceUnwrap { s with rxdata := r }) (wrapTo_lt _ _)

theorem referenceSamples_sameOffset (rs : List Word16) {s : State} (hv : s.cfg.Valid) :
    SameOffset s (referenceSamples rs s) :=
  ⟨referenceSamples_cfg rs s, referenceSamples_zeroOffset rs s, modEq_res hv (referenceSamples_modEq rs s)⟩

/-- Settles O31: both forms keep the offset and end at the same sample, so they give the same codes; the state of the
spec's table shows that ACC differs. -/
theorem referenceFormGivesTheSameCode : Obligations.ReferenceFormGivesTheSameCode := by
  refine ⟨fun rs s hI => ?_, { State.reset with lastRaw := 4090, acc := 4090 }, by decide, by decide, by decide⟩
  obtain ⟨hv, _, hacc, _⟩ := hI.1
  have hs := samples_sameOffset rs hv
  have hr := referenceSamples_sameOffset rs hv
  have hlast : (referenceSamples rs s).lastRaw = (samples rs s).lastRaw := by
    rw [referenceSamples_lastRaw, samples_lastRaw]
  have hmech : (referenceSamples rs s).mechCode = (samples rs s).mechCode := by
    zify
    rw [hr.mechCode_eq hv, hs.mechCode_eq hv, hlast]
  refine ⟨?_, hlast, hmech, by rw [State.elecCode, State.elecCode, hmech, hr.cfg, hs.cfg]⟩
  have hlt : ((referenceSamples rs s).acc : Int) < (2 ^ s.cfg.w : Nat) := by
    exact_mod_cast referenceSamples_acc_lt rs hacc
  rw [← hlast, ← Int.emod_eq_of_lt (by omega) hlt]
  calc ((referenceSamples rs s).acc : Int)
      _ = (referenceSamples rs s).acc - (referenceSamples rs s).lastRaw + (referenceSamples rs s).lastRaw := by ring
      _ ≡ s.acc - s.lastRaw + (referenceSamples rs s).lastRaw [ZMOD (2 ^ s.cfg.w : Nat)] :=
        (referenceSamples_modEq rs s).add_right _
      _ = s.acc + (referenceSamples rs s).lastRaw - s.lastRaw := by ring

/-! ### The accumulator and the shaft (rule R116) -/

/-- A movement of less than half a revolution is the rotation the samples at its ends give. -/
theorem shortestDelta_eq_movement {c : Config} (h : c.Valid) {raw last : Nat} {p q : Int}
    (hlast : (last : Int) = p % (c.res : Int)) (hraw : (raw : Int) = q % (c.res : Int))
    (hmove : 2 * |q - p| < (c.res : Int)) : shortestDelta c raw last = q - p := by
  have hlow := neg_abs_le (q - p)
  have hhigh := le_abs_self (q - p)
  have hcongr : (raw : Int) - last ≡ q - p [ZMOD c.res] := by
    rw [hlast, hraw]
    exact (Int.mod_modEq q _).sub (Int.mod_modEq p _)
  rw [shortestDelta_eq_bmod h, bmod_congr hcongr]
  exact Int.bmod_eq_of_le_mul_two (by linarith) (by linarith)

theorem samples_rangesOk (rs : List Word16) {s : State} (h : s.RangesOk) : (samples rs s).RangesOk := by
  induction rs generalizing s with
  | nil => exact h
  | cons r rs ih => exact ih (unwrap_rangesOk (s := { s with rxdata := r }) h)

/-- While every movement is below half a revolution, ACC moves by the true movement modulo `2^W`. -/
theorem samples_acc_modEq (ps : List (Int × Word16)) (p0 : Int) {s : State} (hv : s.cfg.Valid)
    (h0 : (s.lastRaw : Int) = p0 % (s.cfg.res : Int))
    (hps : ∀ pr ∈ ps, (rawOf s.cfg pr.2 : Int) = pr.1 % (s.cfg.res : Int))
    (hchain : List.IsChain (fun p q : Int => 2 * |q - p| < (s.cfg.res : Int)) (p0 :: ps.map Prod.fst)) :
    ((samples (ps.map Prod.snd) s).acc : Int) ≡ s.acc + ((ps.map Prod.fst).getLast?.getD p0 - p0)
      [ZMOD (2 ^ s.cfg.w : Nat)] := by
  induction ps generalizing p0 s with
  | nil => simp [samples, Int.ModEq.refl]
  | cons pr ps ih =>
    obtain ⟨hmove, hchain⟩ := List.isChain_cons_cons.1 hchain
    have hraw := hps pr List.mem_cons_self
    have hrest := ih pr.1 (s := unwrap { s with rxdata := pr.2 }) hv hraw
      (fun p hp => hps p (List.mem_cons_of_mem pr hp)) hchain
    have hstep : ((unwrap { s with rxdata := pr.2 }).acc : Int) ≡ s.acc + (pr.1 - p0) [ZMOD (2 ^ s.cfg.w : Nat)] := by
      rw [← shortestDelta_eq_movement hv h0 hraw hmove]
      exact wrapTo_modEq _ _
    rw [List.map_cons, List.map_cons, List.getLast?_cons, Option.getD_some]
    calc ((samples (ps.map Prod.snd) (unwrap { s with rxdata := pr.2 })).acc : Int)
        _ ≡ (unwrap { s with rxdata := pr.2 }).acc + ((ps.map Prod.fst).getLast?.getD pr.1 - pr.1)
            [ZMOD (2 ^ s.cfg.w : Nat)] := hrest
        _ ≡ s.acc + (pr.1 - p0) + ((ps.map Prod.fst).getLast?.getD pr.1 - pr.1) [ZMOD (2 ^ s.cfg.w : Nat)] :=
          hstep.add_right _
        _ = s.acc + ((ps.map Prod.fst).getLast?.getD pr.1 - p0) := by ring

/-- Settles O29: `signed(ACC)` is known modulo `2^W` from the sum of the movements, and in its range from that. -/
theorem accumulatorTracksTheShaft : Obligations.AccumulatorTracksTheShaft := by
  intro ps p0 s hI h0 hps hchain hlow hhigh
  have hv := hI.1.1
  obtain ⟨_, _, hacc, _⟩ := samples_rangesOk (ps.map Prod.snd) hI.1
  rw [(samples_sameOffset _ hv).cfg] at hacc
  have hsigned : (s.acc : Int) ≡ signedOf s.cfg.w s.acc [ZMOD (2 ^ s.cfg.w : Nat)] := (signedOf_emod _ _).symm
  have hmoved := (samples_acc_modEq ps p0 hv h0 hps hchain).trans (hsigned.add_right _)
  rw [signedOf_eq_bmod hacc, bmod_congr hmoved]
  exact Int.bmod_eq_of_le_mul_two (by push_cast; linarith) (by push_cast; linarith)

end Sys2Proof.Machine
end

section
/-! SUPPORT. The next state of SAMPLE written out (41_unwrap_tracker.md rule R113). -/

namespace Sys2Proof.Machine

/-- What a sample taken by an engine at rest writes besides the tracker, after its operand is latched (rules R90,
R113). -/
theorem takeSample_latch {s : State} (h : s.EngineAtRest) (a : Word16) :
    takeSample (latch a s) = { s with
      arg := a, rxdata := s.response, rxsr := s.response, txsr := sentOut s.cfg wordAngleRead,
      acc := (takeSample (latch a s)).acc, lastRaw := (takeSample (latch a s)).lastRaw, script := s.script.tail,
      frames := s.frames + 1, trace := s.trace ++ [.frm wordAngleRead s.response] } := by
  rw [takeSample, exchange_of_engineAtRest (s := latch a s) h]
  rfl

/-- The numbers that solve rules R110 to R112 in integers are those of the state after the sample. -/
theorem takeSample_latch_of_numbers {s : State} (hI : s.Inv) (a : Word16) {raw m acc' : Nat} {d : Int}
    (hraw : raw = rawOf s.cfg s.response) (hd : d = ((raw : Int) - s.lastRaw) % (s.cfg.res : Int))
    (hacc : (acc' : Int) = (s.acc + if 2 * d < s.cfg.res then d else d - s.cfg.res) % (2 ^ s.cfg.w : Nat))
    (hm : (m : Int) = ((acc' : Int) - s.zeroOffset) % (s.cfg.res : Int)) :
    (takeSample (latch a s)).lastRaw = raw ∧ (takeSample (latch a s)).acc = acc' ∧
      (takeSample (latch a s)).mechCode = m := by
  have hv := hI.1.1
  have hdelta : shortestDelta s.cfg raw s.lastRaw = if 2 * d < s.cfg.res then d else d - s.cfg.res := by
    rw [shortestDelta_eq_bmod hv, bmod_eq_ite_two_mul, hd]
  have hacc' : (takeSample (latch a s)).acc = acc' := by
    zify
    rw [hacc, ← hdelta, hraw]
    exact wrapTo_cast _ _
  refine ⟨hraw.symm, hacc', ?_⟩
  zify
  rw [mechCode_eq_emod_acc (s := takeSample (latch a s)) hv, hacc', hm]
  rfl

/-- Settles O16: the state after the sample, with its numbers those the statement solves for, and its delivery. -/
theorem sampleUpdatesAndReports : Obligations.SampleUpdatesAndReports := by
  rintro a s raw m acc' d delta hI hi hraw hd rfl hacc hm
  obtain ⟨_, hs, _⟩ := idle_at_rest hI hi
  obtain ⟨hlast, hacc', hmech⟩ := takeSample_latch_of_numbers hI a hraw hd hacc hm
  refine ⟨decodeEncodeRoundTrip (.sample a), ?_⟩
  rw [exec_idle hI hi, effectOf, hmech, takeSample_latch (engineAtRest_of_idle hI hi) a, hlast, hacc', deliver, ← hs]
  rfl

end Sys2Proof.Machine
end

section
/-! SUPPORT. The converter's arithmetic (42_angle_converter.md rules R131 to R134, R137): CYCLE as a quotient, the range of
the electrical code, the angles in radians, and periodicity. -/

namespace Sys2Proof.Machine

/-! ### CYCLE (rule R132) -/

theorem cycle_pos {c : Config} (h : c.Valid) : 0 < c.cycle := by
  obtain ⟨_, _, hpp, hle⟩ := h
  exact Nat.div_pos hle hpp

theorem cycle_mul_pp_le (c : Config) : c.cycle * c.pp ≤ c.res := Nat.div_mul_le_self c.res c.pp

theorem res_lt_succ_cycle_mul_pp {c : Config} (h : c.Valid) : c.res < (c.cycle + 1) * c.pp := by
  obtain ⟨_, _, hpp, _⟩ := h
  exact (Nat.div_lt_iff_lt_mul hpp).1 (Nat.lt_succ_self c.cycle)

/-- Settles O34: the two bounds of a quotient rounded down, whose divisor is neither 0 nor above `RES`. -/
theorem cycleIsAtLeastOne : Obligations.CycleIsAtLeastOne := fun c hv =>
  ⟨cycle_pos hv, Nat.div_le_self c.res c.pp, cycle_mul_pp_le c, res_lt_succ_cycle_mul_pp hv⟩

/-! ### The range of the electrical code (rule R133) -/

theorem elecCode_le {s : State} (hv : s.cfg.Valid) : s.elecCode ≤ (s.cfg.cycle - 1) * s.cfg.pp :=
  Nat.mul_le_mul_right s.cfg.pp (Nat.le_sub_one_of_lt (Nat.mod_lt s.mechCode (cycle_pos hv)))

theorem cycle_pred_mul_pp_le (c : Config) : (c.cycle - 1) * c.pp ≤ c.res - c.pp := by
  rw [Nat.sub_one_mul]
  exact Nat.sub_le_sub_right (cycle_mul_pp_le c) c.pp

theorem elecCode_lt {s : State} (hv : s.cfg.Valid) : s.elecCode < s.cfg.res := by
  have hle := (elecCode_le hv).trans (cycle_pred_mul_pp_le s.cfg)
  obtain ⟨_, _, hpp, _⟩ := hv
  exact hle.trans_lt (Nat.sub_lt (res_pos s.cfg) hpp)

/-- Settles O33: the remainder is at most `CYCLE − 1`, and `CYCLE × PP` at most `RES`. -/
theorem electricalCodeIsInRange : Obligations.ElectricalCodeIsInRange := fun s hI =>
  have hv := hI.1.1
  ⟨rfl, elecCode_le hv, cycle_pred_mul_pp_le s.cfg, elecCode_lt hv, Nat.dvd_mul_left s.cfg.pp _⟩

/-! ### The angles in radians (rules R131, R134) -/

theorem angleRadians_nonneg (c : Config) (code : Nat) : 0 ≤ angleRadians c code := by
  unfold angleRadians
  positivity

/-- A code below `RES` stands for an angle below one turn. -/
theorem angleRadians_lt {c : Config} {code : Nat} (h : code < c.res) : angleRadians c code < 2 * Real.pi := by
  have hres : (0 : ℝ) < c.res := Nat.cast_pos.2 (res_pos c)
  have hcode : (code : ℝ) < c.res := Nat.cast_lt.2 h
  rw [angleRadians, div_lt_iff₀ hres, mul_comm]
  exact mul_lt_mul_of_pos_left hcode Real.two_pi_pos

/-- Settles O32: both codes are below `RES`. -/
theorem anglesLieInOneTurn : Obligations.AnglesLieInOneTurn := fun s hI =>
  ⟨⟨angleRadians_nonneg _ _, angleRadians_lt (mechCode_lt s)⟩,
    angleRadians_nonneg _ _, angleRadians_lt (elecCode_lt hI.1.1)⟩

/-! ### Periodicity (rule R137) -/

/-- The electrical code is a function of the mechanical code modulo `CYCLE`. -/
theorem elecCode_eq_of_modEq {s t : State} (hcfg : t.cfg = s.cfg) (h : t.mechCode ≡ s.mechCode [MOD s.cfg.cycle]) :
    t.elecCode = s.elecCode := by
  rw [State.elecCode, State.elecCode, hcfg, h]

theorem cycle_dvd_res {c : Config} (h : c.pp ∣ c.res) : c.cycle ∣ c.res := Nat.div_dvd_of_dvd h

/-- Settles O35: `c + CYCLE` is `c` modulo `CYCLE`, and so is its remainder by a multiple of `CYCLE`. The codes 4000 and 489
of the spec's own example show the failure across the wrap. -/
theorem electricalCodeIsPeriodic : Obligations.ElectricalCodeIsPeriodic := by
  refine ⟨fun s t _ _ hcfg _ hm => ?_, fun s t _ _ hcfg hdvd hm => ?_,
    { State.reset with acc := 4000 }, { State.reset with acc := 489 },
    by decide, by decide, rfl, by decide, rfl, by decide, by decide⟩
  · apply elecCode_eq_of_modEq hcfg
    rw [hm]
    exact Nat.add_modEq_right
  · apply elecCode_eq_of_modEq hcfg
    rw [hm]
    exact ((Nat.mod_modEq _ _).of_dvd (cycle_dvd_res hdvd)).trans Nat.add_modEq_right

end Sys2Proof.Machine
end

section
/-! SUPPORT. The next states of MECH and ELEC written out (42_angle_converter.md rules R135, R136). -/

namespace Sys2Proof.Machine

theorem exec_mech_eq_exec_sample (a : Word16) (s : State) : exec (.mech a) s = exec (.sample a) s := by
  rw [exec_eq_whenReady, exec_eq_whenReady]
  rfl

/-- A number that solves rule R112 in integers is the mechanical code. -/
theorem mechCode_eq_of_emod {s : State} {m : Nat} (hv : s.cfg.Valid)
    (hm : (m : Int) = ((s.acc : Int) - s.zeroOffset) % (s.cfg.res : Int)) : s.mechCode = m :=
  Int.ofNat_inj.1 ((mechCode_eq_emod_acc hv).trans hm.symm)

/-- Settles O17: MECH has the effect of SAMPLE, whose next state has the mechanical code the statement solves for. -/
theorem mechUpdatesAndReports : Obligations.MechUpdatesAndReports := by
  intro a s raw m acc' d delta hI hi hraw hd hdelta hacc hm
  obtain ⟨_, hsample⟩ := sampleUpdatesAndReports a s raw m acc' d delta hI hi hraw hd hdelta hacc hm
  exact ⟨decodeEncodeRoundTrip (.mech a), _, (exec_mech_eq_exec_sample a s).trans hsample, hsample,
    mechCode_eq_of_emod hI.1.1 hm, rfl⟩

/-- Settles O18: the state after the sample has the mechanical code `m` and the parameters of `s`, so its electrical code
is the one of the statement. -/
theorem elecUpdatesAndReports : Obligations.ElecUpdatesAndReports := by
  rintro a s raw m acc' d delta hI hi hraw hd rfl hacc hm
  obtain ⟨_, hs, _⟩ := idle_at_rest hI hi
  obtain ⟨hlast, hacc', hmech⟩ := takeSample_latch_of_numbers hI a hraw hd hacc hm
  have helec : (takeSample (latch a s)).elecCode = m % (s.cfg.res / s.cfg.pp) * s.cfg.pp := by
    rw [State.elecCode, hmech]
    rfl
  refine ⟨decodeEncodeRoundTrip (.elec a), ?_⟩
  rw [exec_idle hI hi, effectOf, helec, takeSample_latch (engineAtRest_of_idle hI hi) a, hlast, hacc', deliver, ← hs]
  rfl

end Sys2Proof.Machine
end

section
/-! SUPPORT. What ZERO leaves in the tracker (43_zero_calibration.md rule R140); then the statements about every run
until the next ZERO (rule R141), the next state written out, a second ZERO at rest, and the host procedure (rule R142). -/

namespace Sys2Proof.Machine

/-! ### What ZERO leaves in the tracker -/

theorem takeSample_sameOffset {s : State} (hv : s.cfg.Valid) : SameOffset s (takeSample s) := by
  have h := unwrap_sameOffset (s := exchange wordAngleRead s) hv
  exact ⟨h.cfg, h.zeroOffset, h.offset⟩

theorem takeSample_clearTracker_acc (s : State) :
    ((takeSample (clearTracker s)).acc : Int) =
      shortestDelta s.cfg (rawOf s.cfg s.response) s.lastRaw % (2 ^ s.cfg.w : Nat) := by
  rw [← zero_add (shortestDelta s.cfg (rawOf s.cfg s.response) s.lastRaw)]
  exact wrapTo_cast _ _

/-- After a cleared tracker's sample the code is the movement since the last sample, because LAST_RAW is kept (decision
D20). -/
theorem takeSample_clearTracker_mechCode {s : State} (hv : s.cfg.Valid) :
    ((takeSample (clearTracker s)).mechCode : Int) =
      ((rawOf s.cfg s.response : Int) - s.lastRaw) % (s.cfg.res : Int) := by
  have h := (takeSample_sameOffset (s := clearTracker s) hv).mechCode_eq hv
  rw [clearTracker_acc, clearTracker_zeroOffset, Nat.cast_zero, zero_sub, sub_zero, ← sub_eq_add_neg] at h
  exact h

theorem effectOf_zero_lastRaw (a : Word16) (s : State) : (effectOf (.zero a) s).lastRaw = rawOf s.cfg s.response := rfl

theorem effectOf_zero_zeroOffset (a : Word16) {s : State} (hv : s.cfg.Valid) :
    ((effectOf (.zero a) s).zeroOffset : Int) = ((rawOf s.cfg s.response : Int) - s.lastRaw) % (s.cfg.res : Int) :=
  takeSample_clearTracker_mechCode (s := latch a s) hv

/-- Storing a reduced sample that was taken with offset 0 as the offset makes the reduced sample 0. -/
theorem storeZero_mechCode {s : State} (hv : s.cfg.Valid) (hz : s.zeroOffset = 0) : (storeZero s).mechCode = 0 := by
  have hm : (s.mechCode : Int) ≡ s.acc [ZMOD s.cfg.res] := by
    rw [mechCode_eq_emod_acc hv, hz, Nat.cast_zero, sub_zero]
    exact Int.mod_modEq _ _
  zify
  rw [mechCode_eq_emod_acc (s := storeZero s) hv]
  exact Int.emod_eq_zero_of_dvd hm.dvd

theorem effectOf_zero_mechCode (a : Word16) {s : State} (hv : s.cfg.Valid) : (effectOf (.zero a) s).mechCode = 0 :=
  storeZero_mechCode (s := takeSample (clearTracker (latch a s))) hv rfl

/-! ### Until the next ZERO (rule R141) -/

/-- From a state of code 0 on, the code is how far the sample has moved, as long as the offset is kept. -/
theorem SameOffset.mechCode_eq_of_mechCode_eq_zero {s t : State} (h : SameOffset s t) (hv : s.cfg.Valid)
    (h0 : s.mechCode = 0) : (t.mechCode : Int) = ((t.lastRaw : Int) - s.lastRaw) % (s.cfg.res : Int) := by
  have hacc : (s.acc : Int) - s.zeroOffset ≡ 0 [ZMOD s.cfg.res] := by
    rw [Int.ModEq, ← mechCode_eq_emod_acc hv, h0]
    rfl
  rw [h.mechCode_eq hv]
  calc (t.lastRaw : Int) + (s.acc - s.lastRaw) - s.zeroOffset
      _ = (t.lastRaw - s.lastRaw) + (s.acc - s.zeroOffset) := by ring
      _ ≡ (t.lastRaw - s.lastRaw) + 0 [ZMOD s.cfg.res] := hacc.add_left _
      _ = t.lastRaw - s.lastRaw := add_zero _

/-- Two numbers in range differ by a multiple of the modulus just where they are equal. -/
theorem sub_emod_eq_zero_iff_of_lt {n x y : Nat} (hx : x < n) (hy : y < n) :
    ((x : Int) - y) % (n : Int) = 0 ↔ x = y := by
  rw [← Int.emod_eq_emod_iff_emod_sub_eq_zero, ← Int.natCast_mod, ← Int.natCast_mod, Int.ofNat_inj,
    Nat.mod_eq_of_lt hx, Nat.mod_eq_of_lt hy]

/-- Settles O27: the code is 0 right after ZERO, and every instruction but ZERO keeps the offset. -/
theorem effectiveZeroHoldsUntilTheNextZero : Obligations.EffectiveZeroHoldsUntilTheNextZero := by
  rintro a is s _ hI hi rfl hz
  have hv := hI.1.1
  have h := effectsOf_sameOffset is hz (s := effectOf (.zero a) s) hv
  have hcode := h.mechCode_eq_of_mechCode_eq_zero hv (effectOf_zero_mechCode a hv)
  rw [effectOf_zero_lastRaw, effectOf_cfg] at hcode
  obtain ⟨hrun, ⟨⟨_, hlast, _⟩, _⟩, _⟩ := runInstrs_idle (.zero a :: is) hI hi
  rw [effectsOf, h.cfg] at hlast
  have hzero := sub_emod_eq_zero_iff_of_lt hlast (rawOf_lt s.cfg hv s.response)
  rw [effectOf_cfg, ← hcode, Int.natCast_eq_zero] at hzero
  exact ⟨_, hrun, hcode, hzero⟩

/-! ### The next state of ZERO (rule R140) -/

theorem clearTracker_latch (a : Word16) (s : State) : clearTracker (latch a s) = latch a (clearTracker s) := rfl

/-- Settles O19: the state after the sample of a cleared tracker, with its numbers those the statement solves for. -/
theorem zeroTakesTheSampleAsZero : Obligations.ZeroTakesTheSampleAsZero := by
  rintro a s raw z acc' delta hI hi hraw hz hdelta hacc
  obtain ⟨hv, hs, _⟩ := idle_at_rest hI hi
  obtain rfl : raw = rawOf s.cfg s.response := hraw
  have hshort : shortestDelta s.cfg (rawOf s.cfg s.response) s.lastRaw = delta := by
    rw [shortestDelta_eq_bmod hv, bmod_eq_ite_two_mul, ← hz, hdelta]
    norm_cast
  have hacc' : (takeSample (latch a (clearTracker s))).acc = acc' := by
    zify
    rw [hacc, ← hshort]
    exact takeSample_clearTracker_acc (latch a s)
  have hmech : (takeSample (latch a (clearTracker s))).mechCode = z := by
    zify
    rw [hz]
    exact takeSample_clearTracker_mechCode (s := latch a s) hv
  have he : (clearTracker s).EngineAtRest := engineAtRest_of_idle (s := s) hI hi
  refine ⟨decodeEncodeRoundTrip (.zero a), _, exec_idle hI hi _, effectOf_zero_mechCode a hv, ?_⟩
  rw [effectOf, clearTracker_latch, storeZero, hmech, takeSample_latch he a, hacc', deliver, ← hs]
  rfl

/-! ### A second ZERO (rule R140 corner case (b)) -/

/-- Settles O28: the second ZERO stores the movement since the first one's sample, which is none. -/
theorem secondZeroAtRestStoresZero : Obligations.SecondZeroAtRestStoresZero := by
  intro a b s t hI hi hexec hrest
  obtain rfl : effectOf (.zero a) s = t := Host.Outcome.next.inj ((exec_idle hI hi _).symm.trans hexec)
  have hI' := effectOf_inv (.zero a) hI hi
  have hv' := hI'.1.1
  have hoffset : (effectOf (.zero b) (effectOf (.zero a) s)).zeroOffset = 0 := by
    zify
    rw [effectOf_zero_zeroOffset b hv', effectOf_cfg, hrest, effectOf_zero_lastRaw, sub_self, Int.zero_emod]
  exact ⟨_, exec_idle hI' (effectOf_idle _ hI hi) _, hoffset, effectOf_zero_mechCode b hv',
    effectOf_zero_mechCode a hI.1.1, hrest⟩

/-! ### The host procedure (rule R142) -/

/-- Settles O60: of the four states only the request is an input, and its word is ZERO's. -/
theorem calibrateShowsTheBlockOnlyZero : Obligations.CalibrateShowsTheBlockOnlyZero := by
  have hword : encode (.zero 0x0000#16) = .opw 0x50000#19 := by decide
  refine ⟨fun c => ?_, fun cmd => rfl⟩
  rw [calibrate, hword]
  exact ⟨rfl, rfl⟩

end Sys2Proof.Machine
end

section
/-! SUPPORT. Waiting and reset (60_exceptions.md rules R154, R159, R160): the cycles in which nothing is presented, of a
running and of an idle block, and the reset that ends a run of them. -/

namespace Sys2Proof.Machine

theorem dropInput_of_inputs_cons {s : State} {a : Input} {rest : List Input} (hin : s.inputs = a :: rest) :
    s.dropInput = { s with inputs := rest } := by
  rw [State.dropInput, hin]; rfl

/-- Settles O11: the two entries of an idle block's step in which nothing is presented. -/
theorem idleBlockWaits : Obligations.IdleBlockWaits := by
  intro s hv hi
  refine ⟨fun hin => ?_, fun rest hin => ?_⟩
  · rw [step_idle hv hi, idleStep, hin]
  · rw [step_idle hv hi, idleStep, hin, ← dropInput_of_inputs_cons hin]

/-- The step that takes a reset is the reset edge, of an idle block and of a busy one. -/
theorem step_rst {s : State} {rest : List Input} (hv : s.cfg.Valid) (hin : s.inputs = .rst :: rest) :
    step s = .next (resetEdge { s with inputs := rest }) := by
  rw [← dropInput_of_inputs_cons hin]
  by_cases hi : s.Idle
  · rw [step_idle hv hi, idleStep, hin]
  · rw [step_busy hv hi, busyStep, hin]

/-! ### Cycles in which nothing is presented (log entry 18) -/

/-- An idle block with no request moves nothing, and no frame closes. -/
theorem clock_idle_waits {s : State} (hi : s.Idle) (hp : s.presented = none) : clock s = s := by
  have hpins : s.pins = ⟨false, false, 0#19, s.deviceBit⟩ := by rw [State.pins, hp]; rfl
  rw [clock, hpins, tick_wait hi, hostMoves, if_neg fun h => by simp [hp] at h, deviceMoves, if_neg fun h => h.1 hi]

theorem clock_presented_none {s : State} (hp : s.presented = none) : (clock s).presented = none := by
  by_cases hi : s.Idle
  · rwa [clock_idle_waits hi hp]
  · rwa [State.presented, clock_busy_keeps_inputs hi]

/-- A step with a cycle that passes is that cycle of the clock, whether an operation runs or the block waits. -/
theorem step_pass {s : State} (hI : s.Inv) (ht : s.cfg.Timed) (hp : s.presented = none) (rest : List Input) :
    step { s with inputs := .pass :: rest } = .next { clock s with inputs := rest } := by
  by_cases hi : s.Idle
  · rw [clock_idle_waits hi hp]
    exact (idleBlockWaits { s with inputs := .pass :: rest } hI.1.1 hi).2 rest rfl
  · obtain ⟨_, _, htake, _⟩ := busyBlockHoldsTheRequest { s with inputs := .pass :: rest } hI ht hi
    rw [htake rest rfl, clock_busy_inputs hi]

/-- The first `k` steps of a run that begins with `k` passing cycles are `k` cycles of the clock. -/
theorem coreRun_passes (k m : Nat) {s : State} (hI : s.Inv) (ht : s.cfg.Timed) (hp : s.presented = none)
    (rest : List Input) :
    Sys2Proof.core.run (k + m) ({ s with inputs := List.replicate k .pass ++ rest } : State) =
      Sys2Proof.core.run m ({ clockRun k s with inputs := rest } : State) := by
  induction k generalizing s with
  | zero => rw [Nat.zero_add]; rfl
  | succ k ih =>
    rw [Nat.add_right_comm, List.replicate_succ, List.cons_append, coreRun_succ (step_pass hI ht hp _), clockRun]
    exact ih (clock_inv hI) (by rwa [clock_cfg]) (clock_presented_none hp)

theorem clockRun_cfg (n : Nat) (s : State) : (clockRun n s).cfg = s.cfg := by
  induction n generalizing s with
  | zero => rfl
  | succ n ih => rw [clockRun, ih, clock_cfg]

/-- The step that takes a word presented for the clock level is one cycle of the clock. -/
theorem step_edge {s : State} {w : OpWord} {rest : List Input} (hv : s.cfg.Valid) (ht : s.cfg.Timed) (hi : s.Idle)
    (hin : s.inputs = .edge w :: rest) : step s = .next (clock s) := by
  rw [step_idle hv hi, idleStep, hin]
  exact (if_pos hv).trans (if_pos ht)

theorem presented_none_of_passes_rst {s : State} {k : Nat} {rest : List Input}
    (hin : s.inputs = List.replicate k .pass ++ .rst :: rest) : s.presented = none := by
  rw [State.presented, hin]
  cases k <;> rfl

/-- Settles O3: a reset is taken in the same way whatever the block is doing, and the passing cycles before it are those
of the clock, while the operation runs and after it has ended. -/
theorem resetAbandonsTheOperation : Obligations.ResetAbandonsTheOperation := by
  refine ⟨fun s rest hv hin => step_rst hv hin, fun s w k rest hI ht hi hin => ?_⟩
  have hv : s.cfg.Valid := hI.1.1
  have hleft : (clock s).inputs = List.replicate k .pass ++ .rst :: rest := by rw [clock_accept hi hin]
  have hcfg : (clockRun k (clock s)).cfg = s.cfg := clockRun_cfg (k + 1) s
  have hpasses := coreRun_passes k 1 (clock_inv hI) (by rwa [clock_cfg]) (presented_none_of_passes_rst hleft)
    (.rst :: rest)
  rw [← hleft] at hpasses
  have hrst := step_rst (s := { clockRun k (clock s) with inputs := .rst :: rest }) (by rwa [hcfg]) rfl
  rw [coreRun_succ (step_edge hv ht hi hin), hpasses, coreRun_succ hrst, ← hcfg]
  rfl

end Sys2Proof.Machine
end

section
/-! SUPPORT. The edge with `rst = 1` (70_reset_and_hazards.md rule R170). -/

namespace Sys2Proof.Machine

/-- Reset wins over the other pins (60_exceptions.md rule R154). -/
theorem tick_rst (v d : Bool) (w : OpWord) (s : State) : tick ⟨true, v, w, d⟩ s = resetEdge s := rfl

theorem resetEdge_idle (s : State) : (resetEdge s).Idle := rfl

/-- What a reset leaves is the power-up state again. -/
theorem resetEdge_reset : resetEdge State.reset = State.reset := rfl

/-- Settles O1: the edge is `resetEdge`, whose fields are those of `State.resetOf`, and each port is gated by `rst`. -/
theorem resetEdgeResetsEveryRegister : Obligations.ResetEdgeResetsEveryRegister := by
  intro s v d w
  rw [tick_rst, tick_rst]
  exact ⟨rfl, ⟨rfl, rfl, rfl, rfl, rfl⟩, ⟨resetEdge_idle s, rfl⟩, resetEdge_reset⟩

end Sys2Proof.Machine
end

section
/-! SUPPORT. Every operation ends (70_reset_and_hazards.md rule R188). A step of a list is left after finitely many cycles,
from any phase of a frame and any count of `DLY`; no list has a step from 12 on (10_state.md rule R26). -/

namespace Sys2Proof.Machine

/-! ### Leaving a step -/

/-- After some busy cycles the block is idle or at the next step of its list. -/
def State.LeavesStep (s : State) : Prop :=
  ∃ n t, BusyRun n s t ∧ (t.Idle ∨ t.seq = ⟨s.seq.op, s.seq.step + 1⟩)

/-- Cycles within a step do not matter for leaving it. -/
theorem BusyRun.leavesStep {n : Nat} {s t : State} (h : BusyRun n s t) (hseq : t.seq = s.seq) (ht : t.LeavesStep) :
    s.LeavesStep := by
  obtain ⟨m, u, hrun, hend⟩ := ht
  rw [hseq] at hend
  exact ⟨n + m, u, h.trans hrun, hend⟩

/-! ### The phases of a frame, from the last to the first (rules R91, R92) -/

theorem leavesStep_of_gap {s : State} {cmd : Word16} (hc : s.current = some (.frame cmd)) (hp : s.ph = .gap) :
    s.LeavesStep :=
  ⟨_, _, .gap hc hp, .inr rfl⟩

theorem leavesStep_of_hold {s : State} {cmd : Word16} (hc : s.current = some (.frame cmd)) (hp : s.ph = .hold) :
    s.LeavesStep :=
  (BusyRun.hold hc hp).leavesStep rfl (leavesStep_of_gap hc rfl)

/-- What is left of the low half of a period, whatever `DLY` holds, ends with the leading edge. -/
theorem BusyRun.leading {s : State} (hf : s.inFrame = true) (hp : s.ph = .shift) (hb : s.bitcnt ≠ 0#5)
    (hk : s.sck = s.cfg.cpol) : BusyRun (s.dly.toNat + 1) s (leadingEdge s.deviceBit s) := by
  have hrun := BusyRun.countedOut (s := s) (.inr ⟨hf, by simp [hp], fun _ h => hb h.1⟩)
  rwa [clock_leading (s := { s with dly := 0#32 }) hf hp hb hk rfl] at hrun

/-- What is left of the high half of a period ends with the trailing edge. -/
theorem BusyRun.trailing {s : State} (hf : s.inFrame = true) (hp : s.ph = .shift) (hk : s.sck ≠ s.cfg.cpol) :
    BusyRun (s.dly.toNat + 1) s (trailingEdge s.deviceBit s) := by
  have hrun := BusyRun.countedOut (s := s) (.inr ⟨hf, by simp [hp], fun _ h => hk h.2⟩)
  rwa [clock_trailing (s := { s with dly := 0#32 }) hf hp hk rfl] at hrun

/-- Between two periods of the burst: each of the bits left takes one period, and then phase SHIFT is left. -/
theorem leavesStep_of_shift_low {s : State} {cmd : Word16} (hc : s.current = some (.frame cmd)) (hp : s.ph = .shift)
    (hk : s.sck = s.cfg.cpol) : s.LeavesStep := by
  have hf : s.inFrame = true := (inFrame_iff s).2 ⟨cmd, hc⟩
  induction hn : s.bitcnt.toNat generalizing s with
  | zero =>
    have hb : s.bitcnt = 0#5 := BitVec.eq_of_toNat_eq hn
    have hlast := BusyRun.one (not_idle_of_current hc)
    rw [clock_shift_end hc hp hb hk] at hlast
    exact hlast.leavesStep rfl (leavesStep_of_hold hc rfl)
  | succ n ih =>
    have hb : s.bitcnt ≠ 0#5 := by intro hb; simp [hb] at hn
    have hhigh : (leadingEdge s.deviceBit s).sck ≠ s.cfg.cpol := by simp [leadingEdge]
    have hperiod := (BusyRun.leading hf hp hb hk).trans (.trailing hf hp hhigh)
    have hfewer : (s.bitcnt - 1#5).toNat = n := by bv_omega
    exact hperiod.leavesStep rfl (ih hc hp rfl hf hfewer)

/-- In the middle of a period the trailing edge comes first. -/
theorem leavesStep_of_shift {s : State} {cmd : Word16} (hc : s.current = some (.frame cmd)) (hp : s.ph = .shift) :
    s.LeavesStep := by
  by_cases hk : s.sck = s.cfg.cpol
  · exact leavesStep_of_shift_low hc hp hk
  · have hrun := BusyRun.trailing ((inFrame_iff s).2 ⟨cmd, hc⟩) hp hk
    exact hrun.leavesStep rfl (leavesStep_of_shift_low hc hp rfl)

theorem leavesStep_of_setup {s : State} {cmd : Word16} (hc : s.current = some (.frame cmd)) (hp : s.ph = .setup) :
    s.LeavesStep :=
  (BusyRun.setup hc hp).leavesStep rfl (leavesStep_of_shift hc rfl)

/-- A frame step is left from whatever phase it is in. -/
theorem leavesStep_of_frame {s : State} {cmd : Word16} (hc : s.current = some (.frame cmd)) : s.LeavesStep := by
  cases hp : s.ph with
  | idle =>
    have hopen := BusyRun.one (not_idle_of_current hc)
    rw [clock_frame hc (by simp [hp]), frameEdge, hp] at hopen
    exact hopen.leavesStep rfl (leavesStep_of_setup hc rfl)
  | setup => exact leavesStep_of_setup hc hp
  | shift => exact leavesStep_of_shift hc hp
  | hold => exact leavesStep_of_hold hc hp
  | gap => exact leavesStep_of_gap hc hp

/-! ### Every step, and every list -/

/-- Every step of every list is left: a delay and a frame when they have counted out, any other after one cycle. -/
theorem leavesStep_of_current {s : State} {a : Action} (hc : s.current = some a) : s.LeavesStep := by
  cases a with
  | delay t => exact ⟨_, _, .delay hc, .inr rfl⟩
  | frame cmd => exact leavesStep_of_frame hc
  | update | clear =>
    have hrun := BusyRun.one (not_idle_of_current hc)
    rw [clock_of_not_inFrame hc (by rw [State.inFrame, hc]), stepEdge, hc] at hrun
    exact ⟨1, _, hrun, .inr rfl⟩
  | finish => exact ⟨1, _, .finish hc, .inl rfl⟩

theorem BusyRun.inv {n : Nat} {s t : State} (h : BusyRun n s t) (hI : s.Inv) : t.Inv := by
  induction h with
  | refl s => exact hI
  | cycle _ _ ih => exact ih (clock_inv hI)

/-- A busy state of the invariant is at a step of its list (rule R26). -/
theorem current_of_busy {s : State} (hI : s.Inv) (hi : ¬ s.Idle) : ∃ a, s.current = some a := by
  obtain ⟨_, ⟨_, hcur, _⟩, _⟩ := hI
  exact Option.ne_none_iff_exists'.1 (hcur hi)

theorem step_lt_of_current {s : State} {a : Action} (hc : s.current = some a) : s.seq.step < 12 := by
  by_contra hge
  rw [State.current, stepAction_of_le _ _ _ (not_lt.1 hge)] at hc
  cases hc

/-- From every state of the invariant a chain of busy cycles leads to an idle block, by the number of steps that can still
come. -/
theorem busyRun_to_idle {s : State} (hI : s.Inv) : ∃ n t, BusyRun n s t ∧ t.Idle := by
  induction hk : 12 - s.seq.step using Nat.strong_induction_on generalizing s with
  | _ k ih =>
    by_cases hi : s.Idle
    · exact ⟨0, s, .refl s, hi⟩
    · obtain ⟨a, hc⟩ := current_of_busy hI hi
      have hlt : s.seq.step < 12 := step_lt_of_current hc
      obtain ⟨n, t, hrun, hidle | hseq⟩ := leavesStep_of_current hc
      · exact ⟨n, t, hrun, hidle⟩
      · have hfewer : 12 - t.seq.step < k := by simp only [hseq]; omega
        obtain ⟨m, u, hrest, hidle⟩ := ih _ hfewer (hrun.inv hI) rfl
        exact ⟨n + m, u, hrun.trans hrest, hidle⟩

/-- Settles O56: the chain of busy cycles to an idle block is a run of the clock. -/
theorem everyOperationEnds : Obligations.EveryOperationEnds := by
  intro s hI
  obtain ⟨n, t, hrun, hidle⟩ := busyRun_to_idle hI
  exact ⟨n, by rwa [hrun.clockRun_eq]⟩

end Sys2Proof.Machine
end
